-- ==== Sys2Proof/Word.lean ====
section
/-! DEFINITION. The bit widths of the bus and of the state elements (spec 00_scope R6, 10_state R30). -/

namespace Sys2Proof

/-- The bus data word: `DATA_BITS = 32` (R6). Also a tuning word, a phase accumulator and a sample count. -/
abbrev Word := BitVec 32

/-- A byte offset in the 12-bit register window (`ADDR_BITS = 12`, R6; R70). -/
abbrev Offset := BitVec 12

/-- A transaction key `TK`: the write bit in bit 12, then the 12 offset bits (R100). -/
abbrev Key := BitVec 13

/-- The 45-bit operation word `OPW`: the key in bits 44:32, the data in bits 31:0 (R107). -/
abbrev OpWord := BitVec 45

/-- An output sample: signed 16 bits (R30, `OUT`). -/
abbrev Sample := BitVec 16

/-- An envelope level: 25 bits, `LEVEL_FRAC = 24` fraction bits (R6, R30). -/
abbrev Level := BitVec 25

/-- A per-sample envelope increment: 26 bits, two's complement (R30, `ENV_INC`). -/
abbrev Increment := BitVec 26

end Sys2Proof
end

