-- ==== Sys2Proof/Syntax.lean ====
section
/-! DEFINITION. The operations of the block, one constructor per row of the operation map (R107, opcode_table.json). -/

namespace Sys2Proof

/-- One host operation. A `note` is the whole 8-bit NOTE field of the command word (R101, R103); `i` is `TK[8:2]`
(R145), `j` is `TK[9:2]` (R320), and `d` is the 32-bit data word of a write (R104). -/
inductive Instr where
  /-- NOP (R281): no operation. -/
  | nop
  /-- PRESS (R282): key down: retune the voice and enter Attack. -/
  | press (note : BitVec 8)
  /-- RELEASE (R284): key up: if the note is the current one, enter Release. -/
  | release (note : BitVec 8)
  /-- STEP (R290): produce one block of `B` samples. -/
  | step
  /-- WR_STATUS (R366): write STATUS. -/
  | wrStatus (d : Word)
  /-- WR_ATTACK (R300): write ATTACK. -/
  | wrAttack (d : Word)
  /-- WR_DECAY (R301): write DECAY. -/
  | wrDecay (d : Word)
  /-- WR_SUSTAIN (R302): write SUSTAIN. -/
  | wrSustain (d : Word)
  /-- WR_RELEASE (R303): write RELEASE. -/
  | wrRelease (d : Word)
  /-- WR_MODFREQ (R304): write MODFREQ. -/
  | wrModfreq (d : Word)
  /-- WR_MODDEPTH (R305): write MODDEPTH. -/
  | wrModdepth (d : Word)
  /-- RD_CMD (R310): read CMD. -/
  | rdCmd
  /-- RD_STATUS (R311): read STATUS. -/
  | rdStatus
  /-- RD_ERRADDR (R312): read ERRADDR. -/
  | rdErraddr
  /-- RD_ERRDATA (R313): read ERRDATA. -/
  | rdErrdata
  /-- RD_CONFIG (R314): read CONFIG. -/
  | rdConfig
  /-- RD_CURNOTE (R315): read CURNOTE. -/
  | rdCurnote
  /-- RD_ATTACK (R316): read ATTACK. -/
  | rdAttack
  /-- RD_DECAY (R317): read DECAY. -/
  | rdDecay
  /-- RD_SUSTAIN (R318): read SUSTAIN. -/
  | rdSustain
  /-- RD_RELEASE (R319): read RELEASE. -/
  | rdRelease
  /-- RD_MODFREQ (R321): read MODFREQ. -/
  | rdModfreq
  /-- RD_MODDEPTH (R322): read MODDEPTH. -/
  | rdModdepth
  /-- RD_ENV_PHASE (R323): read ENV_PHASE. -/
  | rdEnvPhase
  /-- RD_ENV_LEVEL (R324): read ENV_LEVEL. -/
  | rdEnvLevel
  /-- RD_ENV_COUNT (R325): read ENV_COUNT. -/
  | rdEnvCount
  /-- RD_ENV_LEN (R326): read ENV_LEN. -/
  | rdEnvLen
  /-- RD_ENV_TARGET (R327): read ENV_TARGET. -/
  | rdEnvTarget
  /-- RD_ENV_INC (R328): read ENV_INC. -/
  | rdEnvInc
  /-- RD_VOICE_FTW (R329): read VOICE_FTW. -/
  | rdVoiceFtw
  /-- RD_VOICE_PHASE (R330): read VOICE_PHASE. -/
  | rdVoicePhase
  /-- RD_MOD_PHASE (R331): read MOD_PHASE. -/
  | rdModPhase
  /-- RD_FTAB (R145): read FTAB. -/
  | rdFtab (i : BitVec 7)
  /-- RD_OUT (R320): read OUT. -/
  | rdOut (j : BitVec 8)
  /-- WR_RO_ERRADDR (R332): write to read-only ERRADDR: always an error. -/
  | wrRoErraddr (d : Word)
  /-- WR_RO_ERRDATA (R332): write to read-only ERRDATA: always an error. -/
  | wrRoErrdata (d : Word)
  /-- WR_RO_CONFIG (R332): write to read-only CONFIG: always an error. -/
  | wrRoConfig (d : Word)
  /-- WR_RO_CURNOTE (R332): write to read-only CURNOTE: always an error. -/
  | wrRoCurnote (d : Word)
  /-- WR_RO_ENV_PHASE (R332): write to read-only ENV_PHASE: always an error. -/
  | wrRoEnvPhase (d : Word)
  /-- WR_RO_ENV_LEVEL (R332): write to read-only ENV_LEVEL: always an error. -/
  | wrRoEnvLevel (d : Word)
  /-- WR_RO_ENV_COUNT (R332): write to read-only ENV_COUNT: always an error. -/
  | wrRoEnvCount (d : Word)
  /-- WR_RO_ENV_LEN (R332): write to read-only ENV_LEN: always an error. -/
  | wrRoEnvLen (d : Word)
  /-- WR_RO_ENV_TARGET (R332): write to read-only ENV_TARGET: always an error. -/
  | wrRoEnvTarget (d : Word)
  /-- WR_RO_ENV_INC (R332): write to read-only ENV_INC: always an error. -/
  | wrRoEnvInc (d : Word)
  /-- WR_RO_VOICE_FTW (R332): write to read-only VOICE_FTW: always an error. -/
  | wrRoVoiceFtw (d : Word)
  /-- WR_RO_VOICE_PHASE (R332): write to read-only VOICE_PHASE: always an error. -/
  | wrRoVoicePhase (d : Word)
  /-- WR_RO_MOD_PHASE (R332): write to read-only MOD_PHASE: always an error. -/
  | wrRoModPhase (d : Word)
  /-- WR_RO_FTAB (R332): write to read-only FTAB: always an error. -/
  | wrRoFtab (i : BitVec 7) (d : Word)
  /-- WR_RO_OUT (R332): write to read-only OUT: always an error. -/
  | wrRoOut (j : BitVec 8) (d : Word)
  deriving DecidableEq, Repr

end Sys2Proof
end

