-- ==== Sys2Proof/WellFormed.lean ====
section
/-! DEFINITION. Which terms of `Instr` are operations of the block. -/

namespace Sys2Proof

/-- A well-formed operation. The one operand whose field is wider than its legal range is NOTE: 8 bits, legal
`0..127` (R103). Every value of the other operand fields is an operand of the interface: `j ≥ B` in the OUT window is an
access that raises `E_BAD_ADDR`, not a term without a meaning (R72, R320). -/
def Instr.wellFormed : Instr → Bool
  | .press note => decide (note.toNat < 128)
  | .release note => decide (note.toNat < 128)
  | .nop | .step | .wrStatus _ | .wrAttack _ | .wrDecay _ | .wrSustain _
  | .wrRelease _ | .wrModfreq _ | .wrModdepth _ | .rdCmd | .rdStatus | .rdErraddr
  | .rdErrdata | .rdConfig | .rdCurnote | .rdAttack | .rdDecay | .rdSustain
  | .rdRelease | .rdModfreq | .rdModdepth | .rdEnvPhase | .rdEnvLevel | .rdEnvCount
  | .rdEnvLen | .rdEnvTarget | .rdEnvInc | .rdVoiceFtw | .rdVoicePhase | .rdModPhase
  | .rdFtab _ | .rdOut _ | .wrRoErraddr _ | .wrRoErrdata _ | .wrRoConfig _ | .wrRoCurnote _
  | .wrRoEnvPhase _ | .wrRoEnvLevel _ | .wrRoEnvCount _ | .wrRoEnvLen _ | .wrRoEnvTarget _ | .wrRoEnvInc _
  | .wrRoVoiceFtw _ | .wrRoVoicePhase _ | .wrRoModPhase _ | .wrRoFtab _ _ | .wrRoOut _ _ => true

/-- `Instr.wellFormed` as a proposition. -/
abbrev WellFormed (i : Instr) : Prop := i.wellFormed = true

end Sys2Proof
end

