-- ==== Sys2Proof/Decode.lean ====
section
/-! DEFINITION. The register map (10_state R35, 20_memory R71), the decoder of a bus transaction (30_encoding R105, R106)
and, after it, the encoder written from the same map (R101, R107). -/

namespace Sys2Proof

/-- The registers and window entries of the register map (R35). -/
inductive Reg where
  /-- `CMD` -/
  | cmd
  /-- `STATUS` -/
  | status
  /-- `ERRADDR` -/
  | erraddr
  /-- `ERRDATA` -/
  | errdata
  /-- `CONFIG` -/
  | config
  /-- `CURNOTE` -/
  | curnote
  /-- `ATTACK` -/
  | attack
  /-- `DECAY` -/
  | decay
  /-- `SUSTAIN` -/
  | sustain
  /-- `RELEASE` -/
  | release
  /-- `MODFREQ` -/
  | modfreq
  /-- `MODDEPTH` -/
  | moddepth
  /-- `ENV_PHASE` -/
  | envPhase
  /-- `ENV_LEVEL` -/
  | envLevel
  /-- `ENV_COUNT` -/
  | envCount
  /-- `ENV_LEN` -/
  | envLen
  /-- `ENV_TARGET` -/
  | envTarget
  /-- `ENV_INC` -/
  | envInc
  /-- `VOICE_FTW` -/
  | voiceFtw
  /-- `VOICE_PHASE` -/
  | voicePhase
  /-- `MOD_PHASE` -/
  | modPhase
  /-- `FTAB[i]` -/
  | ftab (i : BitVec 7)
  /-- `OUT[j]`, of which only `j < B` are mapped (R72) -/
  | out (j : BitVec 8)
  deriving DecidableEq, Repr

/-- The registers outside the two windows. -/
def Reg.scalars : List Reg :=
  [.cmd, .status, .erraddr, .errdata, .config, .curnote, .attack, .decay, .sustain, .release, .modfreq, .moddepth,
   .envPhase, .envLevel, .envCount, .envLen, .envTarget, .envInc, .voiceFtw, .voicePhase, .modPhase]

/-- The offset of a register in the window (R35, R71). -/
def Reg.offset : Reg → Offset
  | .cmd => 0x000#12
  | .status => 0x004#12
  | .erraddr => 0x008#12
  | .errdata => 0x00C#12
  | .config => 0x010#12
  | .curnote => 0x014#12
  | .attack => 0x020#12
  | .decay => 0x024#12
  | .sustain => 0x028#12
  | .release => 0x02C#12
  | .modfreq => 0x030#12
  | .moddepth => 0x034#12
  | .envPhase => 0x040#12
  | .envLevel => 0x044#12
  | .envCount => 0x048#12
  | .envLen => 0x04C#12
  | .envTarget => 0x050#12
  | .envInc => 0x054#12
  | .voiceFtw => 0x058#12
  | .voicePhase => 0x05C#12
  | .modPhase => 0x060#12
  | .ftab i => 0b010#3 ++ i ++ 0b00#2
  | .out j => 0b10#2 ++ j ++ 0b00#2

/-- The register an ALIGNED offset selects (R71), or none where it is unmapped (R72). The bound `j < B` on the OUT window
depends on the parameter `B` and is checked where the access is performed (notes/assumptions/10.md). -/
def regAt (a : Offset) : Option Reg :=
  if a.extractLsb' 9 3 = 0b010#3 then some (.ftab (a.extractLsb' 2 7))
  else if a.extractLsb' 10 2 = 0b10#2 then some (.out (a.extractLsb' 2 8))
  else Reg.scalars.find? (fun r => decide (r.offset = a))

/-- Why a transaction decodes to no operation: the decoding errors of R105 and R106. -/
inductive DecodeError where
  /-- the offset has `a[1:0] ≠ 0` (R74) -/
  | misaligned
  /-- an aligned offset that selects no register (R72) -/
  | badAddr
  /-- a command word with `OP ≥ 0x4` (R105) -/
  | badOpcode
  /-- a command word with a nonzero reserved bit (R105) -/
  | reservedBits
  /-- a PRESS or RELEASE with `NOTE ≥ 128` (R105) -/
  | noteRange
  deriving DecidableEq, Repr

/-- `CheckCmd` and the command dispatch (R105, R280): the checks in the spec's order, then the command. -/
def decodeCmd (d : Word) : Except DecodeError Instr :=
  let op := (d.extractLsb' 28 4).toNat
  let note := d.extractLsb' 0 8
  if op ≥ 4 then .error .badOpcode
  else if (op = 0 ∨ op = 3) ∧ d.extractLsb' 0 28 ≠ 0 then .error .reservedBits
  else if (op = 1 ∨ op = 2) ∧ d.extractLsb' 8 20 ≠ 0 then .error .reservedBits
  else if (op = 1 ∨ op = 2) ∧ note.toNat ≥ 128 then .error .noteRange
  else if op = 0 then .ok .nop
  else if op = 1 then .ok (.press note)
  else if op = 2 then .ok (.release note)
  else .ok .step

/-- A write of `d` to a mapped register (R107). -/
def decodeWrite (r : Reg) (d : Word) : Except DecodeError Instr :=
  match r with
  | .cmd => decodeCmd d
  | .status => .ok (.wrStatus d)
  | .erraddr => .ok (.wrRoErraddr d)
  | .errdata => .ok (.wrRoErrdata d)
  | .config => .ok (.wrRoConfig d)
  | .curnote => .ok (.wrRoCurnote d)
  | .attack => .ok (.wrAttack d)
  | .decay => .ok (.wrDecay d)
  | .sustain => .ok (.wrSustain d)
  | .release => .ok (.wrRelease d)
  | .modfreq => .ok (.wrModfreq d)
  | .moddepth => .ok (.wrModdepth d)
  | .envPhase => .ok (.wrRoEnvPhase d)
  | .envLevel => .ok (.wrRoEnvLevel d)
  | .envCount => .ok (.wrRoEnvCount d)
  | .envLen => .ok (.wrRoEnvLen d)
  | .envTarget => .ok (.wrRoEnvTarget d)
  | .envInc => .ok (.wrRoEnvInc d)
  | .voiceFtw => .ok (.wrRoVoiceFtw d)
  | .voicePhase => .ok (.wrRoVoicePhase d)
  | .modPhase => .ok (.wrRoModPhase d)
  | .ftab i => .ok (.wrRoFtab i d)
  | .out j => .ok (.wrRoOut j d)

/-- A read of a mapped register (R107). -/
def decodeRead : Reg → Instr
  | .cmd => .rdCmd
  | .status => .rdStatus
  | .erraddr => .rdErraddr
  | .errdata => .rdErrdata
  | .config => .rdConfig
  | .curnote => .rdCurnote
  | .attack => .rdAttack
  | .decay => .rdDecay
  | .sustain => .rdSustain
  | .release => .rdRelease
  | .modfreq => .rdModfreq
  | .moddepth => .rdModdepth
  | .envPhase => .rdEnvPhase
  | .envLevel => .rdEnvLevel
  | .envCount => .rdEnvCount
  | .envLen => .rdEnvLen
  | .envTarget => .rdEnvTarget
  | .envInc => .rdEnvInc
  | .voiceFtw => .rdVoiceFtw
  | .voicePhase => .rdVoicePhase
  | .modPhase => .rdModPhase
  | .ftab i => .rdFtab i
  | .out j => .rdOut j

/-- `A[11:0]`, the offset of a key (R100). -/
def keyOffset (k : Key) : Offset := k.extractLsb' 0 12

/-- `W`: bit 12 of a key is 1 for a write (R100). -/
def keyWrites (k : Key) : Bool := k.getLsbD 12

/-- The decoder: alignment, then mapping, then direction, then (for CMD) the command word (R106). A read carries no data:
`d` is not looked at. -/
def decode (k : Key) (d : Word) : Except DecodeError Instr :=
  let a := keyOffset k
  if a.extractLsb' 0 2 ≠ 0 then .error .misaligned
  else match regAt a with
    | none => .error .badAddr
    | some r => if keyWrites k then decodeWrite r d else .ok (decodeRead r)

/-! ### The encoder -/

/-- The key of a write to a register. -/
def writeKey (r : Reg) : Key := 1#1 ++ r.offset

/-- The key of a read of a register. -/
def readKey (r : Reg) : Key := 0#1 ++ r.offset

/-- The command word `{OP, RSV = 0, NOTE}` (R101). -/
def cmdWord (op : BitVec 4) (note : BitVec 8) : Word := op ++ 0#20 ++ note

/-- The key of an operation (R107). -/
def encodeKey : Instr → Key
  | .nop | .press _ | .release _ | .step => writeKey .cmd
  | .wrStatus _ => writeKey .status
  | .wrAttack _ => writeKey .attack
  | .wrDecay _ => writeKey .decay
  | .wrSustain _ => writeKey .sustain
  | .wrRelease _ => writeKey .release
  | .wrModfreq _ => writeKey .modfreq
  | .wrModdepth _ => writeKey .moddepth
  | .rdCmd => readKey .cmd
  | .rdStatus => readKey .status
  | .rdErraddr => readKey .erraddr
  | .rdErrdata => readKey .errdata
  | .rdConfig => readKey .config
  | .rdCurnote => readKey .curnote
  | .rdAttack => readKey .attack
  | .rdDecay => readKey .decay
  | .rdSustain => readKey .sustain
  | .rdRelease => readKey .release
  | .rdModfreq => readKey .modfreq
  | .rdModdepth => readKey .moddepth
  | .rdEnvPhase => readKey .envPhase
  | .rdEnvLevel => readKey .envLevel
  | .rdEnvCount => readKey .envCount
  | .rdEnvLen => readKey .envLen
  | .rdEnvTarget => readKey .envTarget
  | .rdEnvInc => readKey .envInc
  | .rdVoiceFtw => readKey .voiceFtw
  | .rdVoicePhase => readKey .voicePhase
  | .rdModPhase => readKey .modPhase
  | .rdFtab i => readKey (.ftab i)
  | .rdOut j => readKey (.out j)
  | .wrRoErraddr _ => writeKey .erraddr
  | .wrRoErrdata _ => writeKey .errdata
  | .wrRoConfig _ => writeKey .config
  | .wrRoCurnote _ => writeKey .curnote
  | .wrRoEnvPhase _ => writeKey .envPhase
  | .wrRoEnvLevel _ => writeKey .envLevel
  | .wrRoEnvCount _ => writeKey .envCount
  | .wrRoEnvLen _ => writeKey .envLen
  | .wrRoEnvTarget _ => writeKey .envTarget
  | .wrRoEnvInc _ => writeKey .envInc
  | .wrRoVoiceFtw _ => writeKey .voiceFtw
  | .wrRoVoicePhase _ => writeKey .voicePhase
  | .wrRoModPhase _ => writeKey .modPhase
  | .wrRoFtab i _ => writeKey (.ftab i)
  | .wrRoOut j _ => writeKey (.out j)

/-- The data word of an operation; a read carries none, so 0 stands there. -/
def encodeData : Instr → Word
  | .nop => cmdWord 0x0#4 0#8
  | .press note => cmdWord 0x1#4 note
  | .release note => cmdWord 0x2#4 note
  | .step => cmdWord 0x3#4 0#8
  | .wrStatus d | .wrAttack d | .wrDecay d | .wrSustain d | .wrRelease d | .wrModfreq d | .wrModdepth d
  | .wrRoErraddr d | .wrRoErrdata d | .wrRoConfig d | .wrRoCurnote d | .wrRoEnvPhase d | .wrRoEnvLevel d
  | .wrRoEnvCount d | .wrRoEnvLen d | .wrRoEnvTarget d | .wrRoEnvInc d | .wrRoVoiceFtw d | .wrRoVoicePhase d | .wrRoModPhase d
  | .wrRoFtab _ d | .wrRoOut _ d => d
  | .rdCmd | .rdStatus | .rdErraddr | .rdErrdata | .rdConfig | .rdCurnote | .rdAttack | .rdDecay
  | .rdSustain | .rdRelease | .rdModfreq | .rdModdepth | .rdEnvPhase | .rdEnvLevel | .rdEnvCount | .rdEnvLen
  | .rdEnvTarget | .rdEnvInc | .rdVoiceFtw | .rdVoicePhase | .rdModPhase
  | .rdFtab _ | .rdOut _ => 0#32

/-- `OPW = {TK, D}` (R107). -/
def opWord (k : Key) (d : Word) : OpWord := k ++ d

/-- The operation word of an operation. -/
def encode (i : Instr) : OpWord := opWord (encodeKey i) (encodeData i)

/-- The decoder on an operation word. -/
def decodeWord (w : OpWord) : Except DecodeError Instr := decode (w.extractLsb' 32 13) (w.extractLsb' 0 32)

/-! ### The operation map of R107 (opcode_table.json) -/

/-- The mask of an operation's row in the operation map (R107): the operation-word bits the row fixes. -/
def Instr.rowMask : Instr → OpWord
  | .nop | .step => 0x1FFFFFFFFFFF#45
  | .press _ | .release _ => 0x1FFFFFFFFF80#45
  | .wrStatus _ | .wrAttack _ | .wrDecay _ | .wrSustain _ | .wrRelease _ | .wrModfreq _
  | .wrModdepth _ | .rdCmd | .rdStatus | .rdErraddr | .rdErrdata | .rdConfig
  | .rdCurnote | .rdAttack | .rdDecay | .rdSustain | .rdRelease | .rdModfreq
  | .rdModdepth | .rdEnvPhase | .rdEnvLevel | .rdEnvCount | .rdEnvLen | .rdEnvTarget
  | .rdEnvInc | .rdVoiceFtw | .rdVoicePhase | .rdModPhase | .wrRoErraddr _ | .wrRoErrdata _
  | .wrRoConfig _ | .wrRoCurnote _ | .wrRoEnvPhase _ | .wrRoEnvLevel _ | .wrRoEnvCount _ | .wrRoEnvLen _
  | .wrRoEnvTarget _ | .wrRoEnvInc _ | .wrRoVoiceFtw _ | .wrRoVoicePhase _ | .wrRoModPhase _ => 0x1FFF00000000#45
  | .rdFtab _ | .wrRoFtab _ _ => 0x1E0300000000#45
  | .rdOut _ | .wrRoOut _ _ => 0x1C0300000000#45

/-- The bits an operation's row fixes, at the value the row gives them (R107). -/
def Instr.rowMatch : Instr → OpWord
  | .nop => 0x100000000000#45
  | .press _ => 0x100010000000#45
  | .release _ => 0x100020000000#45
  | .step => 0x100030000000#45
  | .wrStatus _ => 0x100400000000#45
  | .wrAttack _ => 0x102000000000#45
  | .wrDecay _ => 0x102400000000#45
  | .wrSustain _ => 0x102800000000#45
  | .wrRelease _ => 0x102C00000000#45
  | .wrModfreq _ => 0x103000000000#45
  | .wrModdepth _ => 0x103400000000#45
  | .rdCmd => 0x000000000000#45
  | .rdStatus => 0x000400000000#45
  | .rdErraddr => 0x000800000000#45
  | .rdErrdata => 0x000C00000000#45
  | .rdConfig => 0x001000000000#45
  | .rdCurnote => 0x001400000000#45
  | .rdAttack => 0x002000000000#45
  | .rdDecay => 0x002400000000#45
  | .rdSustain => 0x002800000000#45
  | .rdRelease => 0x002C00000000#45
  | .rdModfreq => 0x003000000000#45
  | .rdModdepth => 0x003400000000#45
  | .rdEnvPhase => 0x004000000000#45
  | .rdEnvLevel => 0x004400000000#45
  | .rdEnvCount => 0x004800000000#45
  | .rdEnvLen => 0x004C00000000#45
  | .rdEnvTarget => 0x005000000000#45
  | .rdEnvInc => 0x005400000000#45
  | .rdVoiceFtw => 0x005800000000#45
  | .rdVoicePhase => 0x005C00000000#45
  | .rdModPhase => 0x006000000000#45
  | .rdFtab _ => 0x040000000000#45
  | .rdOut _ => 0x080000000000#45
  | .wrRoErraddr _ => 0x100800000000#45
  | .wrRoErrdata _ => 0x100C00000000#45
  | .wrRoConfig _ => 0x101000000000#45
  | .wrRoCurnote _ => 0x101400000000#45
  | .wrRoEnvPhase _ => 0x104000000000#45
  | .wrRoEnvLevel _ => 0x104400000000#45
  | .wrRoEnvCount _ => 0x104800000000#45
  | .wrRoEnvLen _ => 0x104C00000000#45
  | .wrRoEnvTarget _ => 0x105000000000#45
  | .wrRoEnvInc _ => 0x105400000000#45
  | .wrRoVoiceFtw _ => 0x105800000000#45
  | .wrRoVoicePhase _ => 0x105C00000000#45
  | .wrRoModPhase _ => 0x106000000000#45
  | .wrRoFtab _ _ => 0x140000000000#45
  | .wrRoOut _ _ => 0x180000000000#45

/-! ### One host access -/

/-- One access the host asks for: `MemRead(addr, size)` or `MemWrite(addr, size, data)` (R11, R73), the direction and
address as a transaction key. Only `size = 4` is a transaction of the interface. -/
structure Access where
  /-- bytes moved -/
  size : Nat
  /-- `TK = {W, A}` -/
  key : Key
  /-- the data word of a write -/
  data : Word
  deriving DecidableEq, Repr

/-- The transaction that performs an operation. -/
def Instr.access (i : Instr) : Access := ⟨4, encodeKey i, encodeData i⟩

/-- The operation word that a number stands for, numbered as opcode_table.json numbers it: `D` in bits 31..0, `TK` in bits
44..32 (R107), the bits above `nbits` 0. The number's bits 45 and up are padding of the last byte and belong to no operation
word (notes/assumptions/19.md). -/
def tableWord (nbits w : Nat) : OpWord := BitVec.ofNat 45 (w % 2 ^ nbits)

/-- The transaction of a table word. -/
def tableAccess (nbits w : Nat) : Access :=
  ⟨4, (tableWord nbits w).extractLsb' 32 13, (tableWord nbits w).extractLsb' 0 32⟩

/-- The instruction the decoder reads from a word numbered as opcode_table.json numbers it. -/
def decodeTableWord (nbits w : Nat) : Option Instr :=
  match decodeWord (tableWord nbits w) with
  | .ok i => some i
  | .error _ => none

end Sys2Proof
end

