-- ==== Sys2Proof/Config.lean ====
section
/-! DEFINITION. What an implementation fixes (the OPEN parameters of R6) and the free values. -/

namespace Sys2Proof

/-- The OPEN parameters a model takes as arguments (R6): the block size `B` and the sampling rate `FS` in Hz.
`FTAB_ROM` is derived from `FS` (R142); no rule depends on `STEP_LATENCY` or `BASE` (R70, R407). -/
structure Config where
  /-- `BLOCK_SIZE`, samples per STEP. -/
  blockSize : Nat
  /-- `FS`, the sampling rate the frequency ROM is built for, in Hz. -/
  fs : Nat
  deriving DecidableEq, Repr

/-- The legal parameter values (R6, R142); a block built for any other is refused (93 U11). -/
abbrev Config.Legal (c : Config) : Prop :=
  1 ≤ c.blockSize ∧ c.blockSize ≤ 256 ∧ 25088 ≤ c.fs ∧ c.fs ≤ 192000

/-- The spec's default parameters: `B = 16`, `FS = 48000` (R6). -/
def Config.default : Config := ⟨16, 48000⟩

/-- FREE VALUE (notes/assumptions/4.md). The `n`-th draw of an unspecified output sample (R40, R44, R401), as its
distance above `-AMP_MAX`: every sample of `-AMP_MAX .. AMP_MAX` is possible and nothing says which one it is. -/
opaque Config.freeSample : Nat → Fin 65535

/-- FREE VALUE (notes/assumptions/7.md). The `n`-th draw of what stands in an element after a loss of power (R375): any
number, of which the element holds as many low bits as it has. -/
opaque Config.lostValue : Nat → Nat

end Sys2Proof
end

