-- ==== Sys2Proof/Machine/Arith.lean ====
section
/-! DEFINITION. The arithmetic primitives of the spec (00_scope R8, R10) and its derived constants (R7). -/

namespace Sys2Proof.Machine

/-- `ONE = 2^24`: envelope level 1.0 (R7). -/
def one : Nat := 2 ^ 24

/-- `DONE = 2^15`: modulation depth 1.0 (R7). -/
def done : Nat := 2 ^ 15

/-- `FTW_MAX = 2^31 - 1`: the largest legal tuning word (R7). -/
def ftwMax : Nat := 2 ^ 31 - 1

/-- `AMP_MAX = 32767`: the largest magnitude of a sample (R6). -/
def ampMax : Int := 32767

/-- `a >> n` on a signed integer: `floor_div(a, 2^n)` (R10). Lean's integer division by a positive number rounds down. -/
def asr (a : Int) (n : Nat) : Int := a / (2 ^ n : Nat)

/-- `trunc_div(a, b) = sign(a) * floor_div(|a|, b)` for `b > 0`: rounds toward zero (R10). -/
def truncDiv (a : Int) (b : Nat) : Int := a.sign * ((a.natAbs / b : Nat) : Int)

/-- `ONE` as a stored level. -/
def levelOne : Level := BitVec.ofNat 25 one

end Sys2Proof.Machine
end

