-- ==== Sys2Proof/Machine/State.lean ====
section
/-! DEFINITION. The state of the block (10_state R30), the model's own fields beside it, the reset state (R44), and the
reasons a step can stop. -/

namespace Sys2Proof.Machine

/-- The envelope phases (R33, R200). -/
inductive Phase where
  | idle
  | attack
  | decay
  | sustain
  | release
  deriving DecidableEq, Repr

/-- The code of a phase, as `ENV_PHASE` reads it (R33). Codes 5 to 7 are never held. -/
def Phase.code : Phase → BitVec 3
  | .idle => 0
  | .attack => 1
  | .decay => 2
  | .sustain => 3
  | .release => 4

/-- The errors the block records (R360). -/
inductive Err where
  /-- `E_MISALIGNED`, code 1 -/
  | misaligned
  /-- `E_BAD_ADDR`, code 2 -/
  | badAddr
  /-- `E_RO_WRITE`, code 3 -/
  | roWrite
  /-- `E_BAD_OPCODE`, code 4 -/
  | badOpcode
  /-- `E_RESERVED_BITS`, code 5 -/
  | reservedBits
  /-- `E_NOTE_RANGE`, code 6 -/
  | noteRange
  /-- `E_CLAMP`, code 7 -/
  | clamp
  deriving DecidableEq, Repr

/-- The settings registers other than `MODFREQ`, which is the modulator oscillator's tuning word (R30, R170). -/
structure Settings where
  /-- `ATTACK` -/
  attack : Word
  /-- `DECAY` -/
  decay : Word
  /-- `SUSTAIN` -/
  sustain : Level
  /-- `RELEASE` -/
  release : Word
  /-- `MODDEPTH` -/
  modDepth : BitVec 16
  deriving DecidableEq, Repr

/-- One oscillator instance (R170). -/
structure Osc where
  /-- the tuning word -/
  ftw : Word
  /-- the phase accumulator -/
  phase : Word
  deriving DecidableEq, Repr

/-- The envelope generator (R30). -/
structure Env where
  /-- `ENV_PHASE` -/
  phase : Phase
  /-- `ENV_LEVEL` -/
  level : Level
  /-- `ENV_COUNT` -/
  count : Word
  /-- `ENV_LEN` -/
  len : Word
  /-- `ENV_TARGET` -/
  target : Level
  /-- `ENV_INC`, signed -/
  inc : Increment
  deriving DecidableEq, Repr

/-- The error state (R30, R41, R362). -/
structure ErrState where
  /-- `ERR` -/
  err : Bool
  /-- `MULTI` -/
  multi : Bool
  /-- `ERRCODE`; none is code 0 (R360) -/
  code : Option Err
  /-- `ERRADDR` -/
  addr : Offset
  /-- `ERRDATA` -/
  data : Word
  deriving DecidableEq, Repr

/-- The reset input (R400), and power-up before any reset (R375). -/
inductive ResetLine where
  /-- power-up, and no reset since -/
  | neverReset
  /-- reset is asserted: the block accepts no transaction -/
  | asserted
  /-- reset is released: the block runs -/
  | released
  deriving DecidableEq, Repr

/-- What the host and the platform do to the block (R409), one event at a time (R80). -/
inductive Event where
  /-- a host access -/
  | access (a : Access)
  /-- the platform asserts reset between two transactions (R400) -/
  | assertReset
  /-- the platform asserts reset while the access is in progress (R403); an access the block cannot begin is none
  (notes/assumptions/6.md) -/
  | cutShort (a : Access)
  /-- the platform releases reset (R400) -/
  | releaseReset
  /-- power is lost and comes back (R375): no element keeps its value -/
  | powerLoss
  deriving DecidableEq, Repr

/-- The whole machine. The fields from `resetLine` on are the model's own but for the reset input
(notes/assumptions 1 to 6). -/
structure State where
  /-- the OPEN parameters; nothing writes them (notes/assumptions/1.md) -/
  cfg : Config
  /-- `ATTACK`, `DECAY`, `SUSTAIN`, `RELEASE`, `MODDEPTH` -/
  settings : Settings
  /-- `CURNOTE` -/
  curNote : BitVec 7
  /-- `ENV_*` -/
  env : Env
  /-- `VOICE_FTW`, `VOICE_PHASE` -/
  voice : Osc
  /-- `MODFREQ`, `MOD_PHASE` -/
  modulator : Osc
  /-- `OUT[0..B-1]` -/
  out : List Sample
  /-- `ERR`, `MULTI`, `ERRCODE`, `ERRADDR`, `ERRDATA` -/
  error : ErrState
  /-- the reset input (R400) -/
  resetLine : ResetLine
  /-- how many free values have been drawn (notes/assumptions/4.md, 7.md) -/
  draws : Nat
  /-- events not yet taken, oldest first (notes/assumptions/2.md) -/
  pending : List Event
  /-- the values the host's reads have returned, oldest first (R410) -/
  reads : List Word
  /-- the fault mark no step clears (93; notes/assumptions/5.md) -/
  faultMark : Bool
  deriving DecidableEq, Repr

/-- Why a step stops with a fault. -/
inductive Fault where
  /-- Raised by the step when the host asks for an access, cut short or not, while reset is asserted: the block accepts no transaction until
  reset is released (R400), a stuck state (93 U15). Safe: the model stops where the block waits. -/
  | transactionInReset
  deriving DecidableEq, Repr

/-- Why a step is refused. -/
inductive Refusal where
  /-- An instruction whose meaning is not written yet, by its mnemonic. Safe: the model stops. No arm raises it. -/
  | notModelled (mnemonic : String)
  /-- Raised by the step when the parameters are outside their legal ranges: such a block is refused (R142, 93 U11).
  Safe: there is no such block. -/
  | illegalConfiguration
  /-- Raised by the step for an access, cut short or not, of any size but 4 bytes, which is no form of the interface (R73, 93 U13).
  Safe: the model stops. -/
  | accessWidth
  /-- Raised by the step for an access, cut short or not, after power-up and before any reset (R375, 93 U17). Safe: the model stops. -/
  | powerUpWithoutReset
  deriving DecidableEq, Repr

/-- The reset values of the settings (R44). -/
def Settings.reset : Settings := ⟨0, 0, levelOne, 0, 0⟩

/-- `OscInit(osc, 0)`: zero tuning word and zero phase (R44, R175). -/
def Osc.reset : Osc := ⟨0, 0⟩

/-- Idle at level 0 (R44, R200). -/
def Env.reset : Env := ⟨.idle, 0, 0, 0, 0, 0⟩

/-- No error recorded (R44); also what an error clear leaves (R366). -/
def ErrState.clear : ErrState := ⟨false, false, none, 0, 0⟩

/-- The block built with the parameters `c`, right after its first reset is released (R44, R400, R401). -/
def State.resetWith (c : Config) : State where
  cfg := c
  settings := Settings.reset
  curNote := 0
  env := Env.reset
  voice := Osc.reset
  modulator := Osc.reset
  out := drawSamples c.blockSize 0
  error := ErrState.clear
  resetLine := .released
  draws := c.blockSize
  pending := []
  reads := []
  faultMark := false

/-- The state after reset with the spec's default parameters (R6). -/
def State.reset : State := State.resetWith Config.default

end Sys2Proof.Machine
end

