-- ==== Sys2Proof/Machine/Flags.lean ====
section
/-! DEFINITION. The two flags and the rest of the error state (R41, R360, R362), and the STATUS word (R36). -/

namespace Sys2Proof.Machine

/-- The code `ERRCODE` records for an error (R360). -/
def Err.code : Err → BitVec 4
  | .misaligned => 1
  | .badAddr => 2
  | .roWrite => 3
  | .badOpcode => 4
  | .reservedBits => 5
  | .noteRange => 6
  | .clamp => 7

/-- The error that a rejected transaction raises (R74, R72, R105). -/
def Err.ofDecode : DecodeError → Err
  | .misaligned => .misaligned
  | .badAddr => .badAddr
  | .badOpcode => .badOpcode
  | .reservedBits => .reservedBits
  | .noteRange => .noteRange

/-- `ERRCODE[3:0]` (R360: 0 is no error since the last clear). -/
def ErrState.codeBits (e : ErrState) : BitVec 4 := (e.code.map Err.code).getD 0

/-- `RecordError(code, addr, data)` (R362): the first error is recorded in full, a later one sets `MULTI` only. -/
def ErrState.record (e : ErrState) (x : Err) (addr : Offset) (data : Word) : ErrState :=
  if e.err then { e with multi := true }
  else { e with err := true, code := some x, addr := addr, data := data }

/-- The STATUS word `{24'b0, ERRCODE, 2'b00, MULTI, ERR}` (R36). -/
def ErrState.status (e : ErrState) : Word :=
  0#24 ++ e.codeBits ++ 0b00#2 ++ BitVec.ofBool e.multi ++ BitVec.ofBool e.err

end Sys2Proof.Machine
end

