-- ==== Sys2Proof/Machine/Operands.lean ====
section
/-! DEFINITION. The operand forms of the operations (R103, R104, R145, R320) and the clamp of the bounded setters. -/

namespace Sys2Proof.Machine

/-- The note index of a NOTE field whose value is legal: its low seven bits, `D[6:0]` (R280, R282). -/
def noteIndex (note : BitVec 8) : BitVec 7 := note.extractLsb' 0 7

/-- A setter's operand at its limit: the whole unsigned word is compared, and a larger one is stored as the limit (R104). -/
def clampTo (limit : Nat) (d : Word) : Nat := min d.toNat limit

/-- Whether a setter's operand is above its limit, which records `E_CLAMP` (R104, R302, R304, R305). -/
def exceeds (limit : Nat) (d : Word) : Bool := decide (limit < d.toNat)

/-- `D[0]`, the one bit of a STATUS write that matters (R104, R366). -/
def clearBit (d : Word) : Bool := d.getLsbD 0

/-- Whether `OUT[j]` is mapped: `j < B` (R71, R72). -/
def outMapped (c : Config) (j : BitVec 8) : Bool := decide (j.toNat < c.blockSize)

/-- Byte lane `k` of a bus word: bits `8k+7 : 8k` (R75). No transaction of the block moves less than the word. -/
def byteLane (w : Word) (k : Fin 4) : BitVec 8 := w.extractLsb' (8 * k) 8

end Sys2Proof.Machine
end

