-- ==== Sys2Proof/Machine/Ops.lean ====
section
/-! DEFINITION. The shared operations on the state: raising an error (the block's whole exception entry, R362, R367) and
clearing it (its return, R366); answering a read; the read value of every register (R36); reset (R400). -/

namespace Sys2Proof.Machine

/-! ### Errors -/

/-- `raise E(addr, data)` (R362): the error is recorded and nothing else changes. The fault mark of 93 is set. -/
def State.raise (s : State) (x : Err) (addr : Offset) (data : Word) : State :=
  { s with error := s.error.record x addr data, faultMark := true }

/-- The error clear of WR_STATUS (R366). The fault mark stays (93). -/
def State.clearErrors (s : State) : State := { s with error := ErrState.clear }

/-! ### Reads -/

/-- A read transaction returns `v`: the next entry of the read sequence (R410). -/
def State.answer (s : State) (v : Word) : State := { s with reads := s.reads ++ [v] }

/-- `OUT[j]`. A buffer has exactly `B` entries in every state a run reaches (notes/assumptions/13.md). -/
def State.outAt (s : State) (j : Nat) : Sample := s.out.getD j 0

/-- The read value of a register (R36, R310 to R331, R145, R320). -/
def readValue (s : State) : Reg → Word
  | .cmd => 0
  | .status => s.error.status
  | .erraddr => s.error.addr.setWidth 32
  | .errdata => s.error.data
  | .config => BitVec.ofNat 32 s.cfg.blockSize
  | .curnote => s.curNote.setWidth 32
  | .attack => s.settings.attack
  | .decay => s.settings.decay
  | .sustain => s.settings.sustain.setWidth 32
  | .release => s.settings.release
  | .modfreq => s.modulator.ftw
  | .moddepth => s.settings.modDepth.setWidth 32
  | .envPhase => s.env.phase.code.setWidth 32
  | .envLevel => s.env.level.setWidth 32
  | .envCount => s.env.count
  | .envLen => s.env.len
  | .envTarget => s.env.target.setWidth 32
  | .envInc => s.env.inc.signExtend 32
  | .voiceFtw => s.voice.ftw
  | .voicePhase => s.voice.phase
  | .modPhase => s.modulator.phase
  | .ftab i => ftabRom s.cfg.fs i.toNat
  | .out j => (s.outAt j.toNat).signExtend 32

/-- A read of a mapped register: its value is returned and no state changes (R36, R77). -/
def readReg (r : Reg) (s : State) : State := s.answer (readValue s r)

/-- A read of an offset that raises: it returns 0 and records the error with data 0 (R72, R74). -/
def rejectRead (x : Err) (addr : Offset) (s : State) : State := (s.raise x addr 0).answer 0

/-- A write to a read-only register: dropped, and recorded (R332). -/
def rejectWrite (x : Err) (addr : Offset) (data : Word) (s : State) : State := s.raise x addr data

/-! ### Settings -/

/-- Record `E_CLAMP` for a setter whose operand is above its limit, after the clamped value is stored (R363). -/
def noteClamp (limit : Nat) (r : Reg) (d : Word) (s : State) : State :=
  if exceeds limit d then s.raise .clamp r.offset d else s

/-! ### Reset and power -/

/-- Reset is asserted: every element takes its reset value, `OUT` new free samples (R400, R401, R403). What is not the
block's stays: the parameters, the events, the read sequence and the fault mark (notes/assumptions/6.md). -/
def State.hardwareReset (s : State) : State :=
  { State.resetWith s.cfg with
    out := drawSamples s.cfg.blockSize s.draws
    draws := s.draws + s.cfg.blockSize
    resetLine := .asserted
    pending := s.pending
    reads := s.reads
    faultMark := s.faultMark }

/-- Reset is released: from here the block accepts transactions (R400). Nothing is released where reset is not asserted. -/
def State.releaseReset (s : State) : State :=
  match s.resetLine with
  | .asserted => { s with resetLine := .released }
  | .released => s
  | .neverReset => s

/-- The `n`-th lost value, as what stands in an element of `w` bits (notes/assumptions/7.md). -/
def lostBits (w n : Nat) : BitVec w := BitVec.ofNat w (Config.lostValue n)

/-- The `n`-th lost value, as a flag. -/
def lostFlag (n : Nat) : Bool := decide (Config.lostValue n % 2 = 1)

/-- The `n`-th lost value, as one of the phases; every phase is possible. -/
def lostPhase (n : Nat) : Phase :=
  match Config.lostValue n with
  | 1 => .attack
  | 2 => .decay
  | 3 => .sustain
  | 4 => .release
  | _ => .idle

/-- The `n`-th lost value, as an error code or none; every one is possible. -/
def lostCode (n : Nat) : Option Err :=
  match Config.lostValue n with
  | 1 => some .misaligned
  | 2 => some .badAddr
  | 3 => some .roWrite
  | 4 => some .badOpcode
  | 5 => some .reservedBits
  | 6 => some .noteRange
  | 7 => some .clamp
  | _ => none

/-- Settings after a loss of power, from draw `k` on: 5 draws. -/
def Settings.lost (k : Nat) : Settings :=
  ⟨lostBits 32 k, lostBits 32 (k + 1), lostBits 25 (k + 2), lostBits 32 (k + 3), lostBits 16 (k + 4)⟩

/-- An envelope after a loss of power, from draw `k` on: 6 draws. -/
def Env.lost (k : Nat) : Env :=
  ⟨lostPhase k, lostBits 25 (k + 1), lostBits 32 (k + 2), lostBits 32 (k + 3), lostBits 25 (k + 4), lostBits 26 (k + 5)⟩

/-- An oscillator after a loss of power, from draw `k` on: 2 draws. -/
def Osc.lost (k : Nat) : Osc := ⟨lostBits 32 k, lostBits 32 (k + 1)⟩

/-- An error state after a loss of power, from draw `k` on: 5 draws. -/
def ErrState.lost (k : Nat) : ErrState :=
  ⟨lostFlag k, lostFlag (k + 1), lostCode (k + 2), lostBits 12 (k + 3), lostBits 32 (k + 4)⟩

/-- An OUT buffer of `b` entries after a loss of power, from draw `k` on: `b` draws. -/
def lostOut (b k : Nat) : List Sample := (List.range b).map fun j => lostBits 16 (k + j)

/-- Power was lost and is back: no element's value survived, and the block must be reset before anything is asked of it
(R375). What stands in each element is a free value of its own; the parameters and what is not the block's stay
(notes/assumptions/7.md). -/
def State.losePower (s : State) : State :=
  { s with
    settings := Settings.lost s.draws
    curNote := lostBits 7 (s.draws + 5)
    env := Env.lost (s.draws + 6)
    voice := Osc.lost (s.draws + 12)
    modulator := Osc.lost (s.draws + 14)
    error := ErrState.lost (s.draws + 16)
    out := lostOut s.cfg.blockSize (s.draws + 21)
    draws := s.draws + 21 + s.cfg.blockSize
    resetLine := .neverReset }

end Sys2Proof.Machine
end

