-- ==== Sys2Proof/Machine/Oscillator.lean ====
section
/-! DEFINITION. The oscillator (42_oscillator R174 to R178). -/

namespace Sys2Proof.Machine

/-- `osc.phase[31:22]`, the table index of the current phase (R174). -/
def Osc.index (o : Osc) : Nat := (o.phase.extractLsb' 22 10).toNat

/-- `OscTick(osc)` (R174): both channels at the phase before the advance, then the phase advanced, wrapping. -/
def Osc.tick (o : Osc) : Osc × Int × Int :=
  ({ o with phase := o.phase + o.ftw }, cosTable o.index, sinTable o.index)

/-- `OscSetFreq(osc, w)` (R177): the phase is kept. -/
def Osc.setFreq (o : Osc) (w : Word) : Osc := { o with ftw := w }

/-- `OscStep` (R178): `n` consecutive samples of both channels, and the oscillator after them. -/
def Osc.steps : Nat → Osc → Osc × List Int × List Int
  | 0, o => (o, [], [])
  | n + 1, o =>
    match o.tick with
    | (o₁, a, b) =>
      match Osc.steps n o₁ with
      | (o₂, as, bs) => (o₂, a :: as, b :: bs)

end Sys2Proof.Machine
end

