-- ==== Sys2Proof/Machine/Modulator.lean ====
section
/-! DEFINITION. The modulator (44_modulator R251 to R253). -/

namespace Sys2Proof.Machine

/-- `t` of the modulation law (R252). -/
def modCut (m : Int) (d : Nat) : Int := asr ((d : Int) * (32768 - m)) 16

/-- `ModApply(x, m, d)` (R252). -/
def modApply (x m : Int) (d : Nat) : Int := asr (x * (32768 - modCut m d)) 15

/-- `ModTick()` (R251): channel A of the modulator oscillator; channel B is discarded. -/
def modTick (o : Osc) : Osc × Int :=
  match o.tick with
  | (o₁, a, _) => (o₁, a)

/-- `ModStep(buf)` (R253) at depth `d`: one modulator sample an entry, in order. -/
def modStep (d : Nat) : List Sample → Osc → Osc × List Sample
  | [], o => (o, [])
  | x :: xs, o =>
    match modTick o with
    | (o₁, m) =>
      match modStep d xs o₁ with
      | (o₂, ys) => (o₂, BitVec.ofInt 16 (modApply x.toInt m d) :: ys)

end Sys2Proof.Machine
end

