-- ==== Sys2Proof/Machine/Envelope.lean ====
section
/-! DEFINITION. The envelope generator (43_envelope R203 to R208). `RampEnter` and `EnvEnter` call each other in the spec;
here each phase entry is written over the entry of its successor (R202), so that the chain of skips ends by construction. -/

namespace Sys2Proof.Machine

/-- `trunc_div(T - S, N)` (R203). -/
def rampInc (start target : Level) (n : Word) : Increment :=
  BitVec.ofInt 26 (truncDiv ((target.toNat : Int) - start.toNat) n.toNat)

/-- `RampEnter(ph, S, T, N)` (R204), `next` being the entry of the phase that follows `ph` (R202). -/
def rampEnter (ph : Phase) (start target : Level) (n : Word) (next : Env → Env) (e : Env) : Env :=
  let e₁ := { e with target := target, len := n, count := 0 }
  if n = 0 then next { e₁ with inc := 0, level := target }
  else { e₁ with inc := rampInc start target n, phase := ph }

/-- `EnvEnter(SUSTAIN)` (R205). -/
def Env.enterSustain (e : Env) : Env := { e with phase := .sustain, count := 0 }

/-- `EnvEnter(IDLE)` (R205). -/
def Env.enterIdle (e : Env) : Env := { e with phase := .idle, count := 0, level := 0 }

/-- `EnvEnter(DECAY)` (R205): from ONE to `SUSTAIN` over `DECAY` samples. -/
def Env.enterDecay (st : Settings) (e : Env) : Env :=
  rampEnter .decay levelOne st.sustain st.decay Env.enterSustain e

/-- `EnvEnter(ATTACK)` (R205): from the current level to ONE over `ATTACK` samples. -/
def Env.enterAttack (st : Settings) (e : Env) : Env :=
  rampEnter .attack e.level levelOne st.attack (Env.enterDecay st) e

/-- `EnvEnter(RELEASE)` (R205): from the current level to 0 over `RELEASE` samples. -/
def Env.enterRelease (st : Settings) (e : Env) : Env :=
  rampEnter .release e.level 0 st.release Env.enterIdle e

/-- `EnvPress()` (R206). -/
def Env.press (st : Settings) (e : Env) : Env := e.enterAttack st

/-- `EnvRelease()` (R207): nothing happens in Idle. -/
def Env.release (st : Settings) (e : Env) : Env :=
  if e.phase = .idle then e else e.enterRelease st

/-- The entry that follows a completed ramp, `EnvEnter(Next(ph))` (R202). Idle and Sustain are no ramps. -/
def Env.enterNext (st : Settings) (e : Env) : Env :=
  match e.phase with
  | .attack => e.enterDecay st
  | .decay => e.enterSustain
  | .release => e.enterIdle
  | .idle => e
  | .sustain => e

/-- One sample of a ramp (R208): the last one returns the target and then enters the next phase. -/
def Env.rampStep (st : Settings) (e : Env) : Env × Level :=
  let c := e.count + 1
  if c = e.len then
    (({ e with count := c, level := e.target }).enterNext st, e.target)
  else
    let l : Level := BitVec.ofInt 25 ((e.level.toNat : Int) + e.inc.toInt)
    ({ e with count := c, level := l }, l)

/-- `EnvStep()` (R208): the envelope after one sample, and the level returned. -/
def Env.step (st : Settings) (e : Env) : Env × Level :=
  match e.phase with
  | .idle => (e, 0)
  | .sustain => (e, e.level)
  | .attack => e.rampStep st
  | .decay => e.rampStep st
  | .release => e.rampStep st

end Sys2Proof.Machine
end

