-- ==== Sys2Proof/Machine/Voice.lean ====
section
/-! DEFINITION. The voice: one oscillator and one envelope (45_commands R283, R285, R291). -/

namespace Sys2Proof.Machine

/-- `VoicePress(w)` (R283): retune, keep the phase, press the envelope. -/
def State.voicePress (s : State) (w : Word) : State :=
  { s with voice := s.voice.setFreq w, env := s.env.press s.settings }

/-- `VoiceRelease()` (R285). -/
def State.voiceRelease (s : State) : State := { s with env := s.env.release s.settings }

/-- `(a * l) >> 24` (R291). -/
def voiceSample (a : Int) (l : Level) : Int := asr (a * l.toNat) 24

/-- `VoiceStep` (R291): `n` samples, the oscillator ticked before the envelope in each; channel B is unused. -/
def voiceStep (st : Settings) : Nat → Osc → Env → Osc × Env × List Sample
  | 0, o, e => (o, e, [])
  | n + 1, o, e =>
    match o.tick, e.step st with
    | (o₁, a, _), (e₁, l) =>
      match voiceStep st n o₁ e₁ with
      | (o₂, e₂, xs) => (o₂, e₂, BitVec.ofInt 16 (voiceSample a l) :: xs)

end Sys2Proof.Machine
end

