-- ==== Sys2Proof/Machine/Commands.lean ====
section
/-! DEFINITION. The commands NOP, PRESS, RELEASE and STEP (45_commands R281 to R293). -/

namespace Sys2Proof.Machine

/-- NOP (R281): no state changes. -/
def execNop (s : State) : Host.Outcome State Fault Refusal := .next s

/-- `CmdPress(n)` (R282). -/
def State.cmdPress (s : State) (n : BitVec 7) : State :=
  { s.voicePress (ftabRom s.cfg.fs n.toNat) with curNote := n }

/-- `CmdRelease(n)` (R284): dropped unless `n` is the current note. -/
def State.cmdRelease (s : State) (n : BitVec 7) : State :=
  if n = s.curNote then s.voiceRelease else s

/-- PRESS (R282). A NOTE of 128 or more is `E_NOTE_RANGE` and nothing else; the decoder rejects it before this
(R105; notes/assumptions/11.md). -/
def execPress (note : BitVec 8) (s : State) : Host.Outcome State Fault Refusal :=
  if note.toNat < 128 then .next (s.cmdPress (noteIndex note))
  else .next (s.raise .noteRange Reg.cmd.offset (cmdWord 0x1#4 note))

/-- RELEASE (R284). A NOTE of 128 or more as in PRESS. -/
def execRelease (note : BitVec 8) (s : State) : Host.Outcome State Fault Refusal :=
  if note.toNat < 128 then .next (s.cmdRelease (noteIndex note))
  else .next (s.raise .noteRange Reg.cmd.offset (cmdWord 0x2#4 note))

/-- `CmdStep()` (R290): the voice fills the block, then the modulator changes it in place. -/
def State.cmdStep (s : State) : State :=
  match voiceStep s.settings s.cfg.blockSize s.voice s.env with
  | (v, e, xs) =>
    match modStep s.settings.modDepth.toNat xs s.modulator with
    | (m, ys) => { s with voice := v, env := e, modulator := m, out := ys }

/-- STEP (R290). -/
def execStep (s : State) : Host.Outcome State Fault Refusal := .next s.cmdStep

end Sys2Proof.Machine
end

