-- ==== Sys2Proof/Machine/ReadOnly.lean ====
section
/-! DEFINITION. The writes to read-only registers and windows, WR_RO (R332), one meaning per row of the operation map. -/

namespace Sys2Proof.Machine

/-- WR_RO_ERRADDR (R332). -/
def execWrRoErraddr (d : Word) (s : State) : Host.Outcome State Fault Refusal :=
  .next (rejectWrite .roWrite Reg.erraddr.offset d s)

/-- WR_RO_ERRDATA (R332). -/
def execWrRoErrdata (d : Word) (s : State) : Host.Outcome State Fault Refusal :=
  .next (rejectWrite .roWrite Reg.errdata.offset d s)

/-- WR_RO_CONFIG (R332). -/
def execWrRoConfig (d : Word) (s : State) : Host.Outcome State Fault Refusal :=
  .next (rejectWrite .roWrite Reg.config.offset d s)

/-- WR_RO_CURNOTE (R332). -/
def execWrRoCurnote (d : Word) (s : State) : Host.Outcome State Fault Refusal :=
  .next (rejectWrite .roWrite Reg.curnote.offset d s)

/-- WR_RO_ENV_PHASE (R332). -/
def execWrRoEnvPhase (d : Word) (s : State) : Host.Outcome State Fault Refusal :=
  .next (rejectWrite .roWrite Reg.envPhase.offset d s)

/-- WR_RO_ENV_LEVEL (R332). -/
def execWrRoEnvLevel (d : Word) (s : State) : Host.Outcome State Fault Refusal :=
  .next (rejectWrite .roWrite Reg.envLevel.offset d s)

/-- WR_RO_ENV_COUNT (R332). -/
def execWrRoEnvCount (d : Word) (s : State) : Host.Outcome State Fault Refusal :=
  .next (rejectWrite .roWrite Reg.envCount.offset d s)

/-- WR_RO_ENV_LEN (R332). -/
def execWrRoEnvLen (d : Word) (s : State) : Host.Outcome State Fault Refusal :=
  .next (rejectWrite .roWrite Reg.envLen.offset d s)

/-- WR_RO_ENV_TARGET (R332). -/
def execWrRoEnvTarget (d : Word) (s : State) : Host.Outcome State Fault Refusal :=
  .next (rejectWrite .roWrite Reg.envTarget.offset d s)

/-- WR_RO_ENV_INC (R332). -/
def execWrRoEnvInc (d : Word) (s : State) : Host.Outcome State Fault Refusal :=
  .next (rejectWrite .roWrite Reg.envInc.offset d s)

/-- WR_RO_VOICE_FTW (R332). -/
def execWrRoVoiceFtw (d : Word) (s : State) : Host.Outcome State Fault Refusal :=
  .next (rejectWrite .roWrite Reg.voiceFtw.offset d s)

/-- WR_RO_VOICE_PHASE (R332). -/
def execWrRoVoicePhase (d : Word) (s : State) : Host.Outcome State Fault Refusal :=
  .next (rejectWrite .roWrite Reg.voicePhase.offset d s)

/-- WR_RO_MOD_PHASE (R332). -/
def execWrRoModPhase (d : Word) (s : State) : Host.Outcome State Fault Refusal :=
  .next (rejectWrite .roWrite Reg.modPhase.offset d s)

/-- WR_RO_FTAB (R332): every index is mapped and read-only. -/
def execWrRoFtab (i : BitVec 7) (d : Word) (s : State) : Host.Outcome State Fault Refusal :=
  .next (rejectWrite .roWrite (Reg.ftab i).offset d s)

/-- WR_RO_OUT (R332): read-only, or `E_BAD_ADDR` where `j ≥ B` (R364). -/
def execWrRoOut (j : BitVec 8) (d : Word) (s : State) : Host.Outcome State Fault Refusal :=
  if outMapped s.cfg j then .next (rejectWrite .roWrite (Reg.out j).offset d s)
  else .next (rejectWrite .badAddr (Reg.out j).offset d s)

end Sys2Proof.Machine
end

