-- ==== Sys2Proof/Machine/Reads.lean ====
section
/-! DEFINITION. The register reads (R310 to R331), the frequency-table read (R145) and the output read (R320). -/

namespace Sys2Proof.Machine

/-- RD_CMD (R310). -/
def execRdCmd (s : State) : Host.Outcome State Fault Refusal := .next (readReg .cmd s)

/-- RD_STATUS (R311). -/
def execRdStatus (s : State) : Host.Outcome State Fault Refusal := .next (readReg .status s)

/-- RD_ERRADDR (R312). -/
def execRdErraddr (s : State) : Host.Outcome State Fault Refusal := .next (readReg .erraddr s)

/-- RD_ERRDATA (R313). -/
def execRdErrdata (s : State) : Host.Outcome State Fault Refusal := .next (readReg .errdata s)

/-- RD_CONFIG (R314). -/
def execRdConfig (s : State) : Host.Outcome State Fault Refusal := .next (readReg .config s)

/-- RD_CURNOTE (R315). -/
def execRdCurnote (s : State) : Host.Outcome State Fault Refusal := .next (readReg .curnote s)

/-- RD_ATTACK (R316). -/
def execRdAttack (s : State) : Host.Outcome State Fault Refusal := .next (readReg .attack s)

/-- RD_DECAY (R317). -/
def execRdDecay (s : State) : Host.Outcome State Fault Refusal := .next (readReg .decay s)

/-- RD_SUSTAIN (R318). -/
def execRdSustain (s : State) : Host.Outcome State Fault Refusal := .next (readReg .sustain s)

/-- RD_RELEASE (R319). -/
def execRdRelease (s : State) : Host.Outcome State Fault Refusal := .next (readReg .release s)

/-- RD_MODFREQ (R321). -/
def execRdModfreq (s : State) : Host.Outcome State Fault Refusal := .next (readReg .modfreq s)

/-- RD_MODDEPTH (R322). -/
def execRdModdepth (s : State) : Host.Outcome State Fault Refusal := .next (readReg .moddepth s)

/-- RD_ENV_PHASE (R323). -/
def execRdEnvPhase (s : State) : Host.Outcome State Fault Refusal := .next (readReg .envPhase s)

/-- RD_ENV_LEVEL (R324). -/
def execRdEnvLevel (s : State) : Host.Outcome State Fault Refusal := .next (readReg .envLevel s)

/-- RD_ENV_COUNT (R325). -/
def execRdEnvCount (s : State) : Host.Outcome State Fault Refusal := .next (readReg .envCount s)

/-- RD_ENV_LEN (R326). -/
def execRdEnvLen (s : State) : Host.Outcome State Fault Refusal := .next (readReg .envLen s)

/-- RD_ENV_TARGET (R327). -/
def execRdEnvTarget (s : State) : Host.Outcome State Fault Refusal := .next (readReg .envTarget s)

/-- RD_ENV_INC (R328). -/
def execRdEnvInc (s : State) : Host.Outcome State Fault Refusal := .next (readReg .envInc s)

/-- RD_VOICE_FTW (R329). -/
def execRdVoiceFtw (s : State) : Host.Outcome State Fault Refusal := .next (readReg .voiceFtw s)

/-- RD_VOICE_PHASE (R330). -/
def execRdVoicePhase (s : State) : Host.Outcome State Fault Refusal := .next (readReg .voicePhase s)

/-- RD_MOD_PHASE (R331). -/
def execRdModPhase (s : State) : Host.Outcome State Fault Refusal := .next (readReg .modPhase s)

/-- RD_FTAB (R145): every index is mapped. -/
def execRdFtab (i : BitVec 7) (s : State) : Host.Outcome State Fault Refusal := .next (readReg (.ftab i) s)

/-- RD_OUT (R320): `OUT[j]` sign-extended, or `E_BAD_ADDR` and the answer 0 where `j ≥ B` (R72). -/
def execRdOut (j : BitVec 8) (s : State) : Host.Outcome State Fault Refusal :=
  if outMapped s.cfg j then .next (readReg (.out j) s)
  else .next (rejectRead .badAddr (Reg.out j).offset s)

end Sys2Proof.Machine
end

