-- ==== Sys2Proof/Machine/Setters.lean ====
section
/-! DEFINITION. The writes to the settings registers (R300 to R305) and to STATUS (R366). -/

namespace Sys2Proof.Machine

/-- WR_STATUS (R366): bit 0 clears the whole error state; the other bits are ignored. -/
def execWrStatus (d : Word) (s : State) : Host.Outcome State Fault Refusal :=
  .next (if clearBit d then s.clearErrors else s)

/-- WR_ATTACK (R300): every value is legal. -/
def execWrAttack (d : Word) (s : State) : Host.Outcome State Fault Refusal :=
  .next { s with settings := { s.settings with attack := d } }

/-- WR_DECAY (R301): every value is legal. -/
def execWrDecay (d : Word) (s : State) : Host.Outcome State Fault Refusal :=
  .next { s with settings := { s.settings with decay := d } }

/-- WR_SUSTAIN (R302): clamped to ONE. -/
def execWrSustain (d : Word) (s : State) : Host.Outcome State Fault Refusal :=
  .next (noteClamp one .sustain d
    { s with settings := { s.settings with sustain := BitVec.ofNat 25 (clampTo one d) } })

/-- WR_RELEASE (R303): every value is legal. -/
def execWrRelease (d : Word) (s : State) : Host.Outcome State Fault Refusal :=
  .next { s with settings := { s.settings with release := d } }

/-- WR_MODFREQ (R304): the modulator is retuned to the value clamped to FTW_MAX, its phase kept. -/
def execWrModfreq (d : Word) (s : State) : Host.Outcome State Fault Refusal :=
  .next (noteClamp ftwMax .modfreq d
    { s with modulator := s.modulator.setFreq (BitVec.ofNat 32 (clampTo ftwMax d)) })

/-- WR_MODDEPTH (R305): clamped to DONE. -/
def execWrModdepth (d : Word) (s : State) : Host.Outcome State Fault Refusal :=
  .next (noteClamp done .moddepth d
    { s with settings := { s.settings with modDepth := BitVec.ofNat 16 (clampTo done d) } })

end Sys2Proof.Machine
end

