-- ==== Sys2Proof/Machine/Dispatch.lean ====
section
/-! DEFINITION. Dispatch: one arm per operation. -/

namespace Sys2Proof.Machine

def exec (i : Instr) (s : State) : Host.Outcome State Fault Refusal :=
  match i with
  | .nop => Sys2Proof.Machine.execNop s
  | .press note => Sys2Proof.Machine.execPress note s
  | .release note => Sys2Proof.Machine.execRelease note s
  | .step => Sys2Proof.Machine.execStep s
  | .wrStatus d => Sys2Proof.Machine.execWrStatus d s
  | .wrAttack d => Sys2Proof.Machine.execWrAttack d s
  | .wrDecay d => Sys2Proof.Machine.execWrDecay d s
  | .wrSustain d => Sys2Proof.Machine.execWrSustain d s
  | .wrRelease d => Sys2Proof.Machine.execWrRelease d s
  | .wrModfreq d => Sys2Proof.Machine.execWrModfreq d s
  | .wrModdepth d => Sys2Proof.Machine.execWrModdepth d s
  | .rdCmd => Sys2Proof.Machine.execRdCmd s
  | .rdStatus => Sys2Proof.Machine.execRdStatus s
  | .rdErraddr => Sys2Proof.Machine.execRdErraddr s
  | .rdErrdata => Sys2Proof.Machine.execRdErrdata s
  | .rdConfig => Sys2Proof.Machine.execRdConfig s
  | .rdCurnote => Sys2Proof.Machine.execRdCurnote s
  | .rdAttack => Sys2Proof.Machine.execRdAttack s
  | .rdDecay => Sys2Proof.Machine.execRdDecay s
  | .rdSustain => Sys2Proof.Machine.execRdSustain s
  | .rdRelease => Sys2Proof.Machine.execRdRelease s
  | .rdModfreq => Sys2Proof.Machine.execRdModfreq s
  | .rdModdepth => Sys2Proof.Machine.execRdModdepth s
  | .rdEnvPhase => Sys2Proof.Machine.execRdEnvPhase s
  | .rdEnvLevel => Sys2Proof.Machine.execRdEnvLevel s
  | .rdEnvCount => Sys2Proof.Machine.execRdEnvCount s
  | .rdEnvLen => Sys2Proof.Machine.execRdEnvLen s
  | .rdEnvTarget => Sys2Proof.Machine.execRdEnvTarget s
  | .rdEnvInc => Sys2Proof.Machine.execRdEnvInc s
  | .rdVoiceFtw => Sys2Proof.Machine.execRdVoiceFtw s
  | .rdVoicePhase => Sys2Proof.Machine.execRdVoicePhase s
  | .rdModPhase => Sys2Proof.Machine.execRdModPhase s
  | .rdFtab n => Sys2Proof.Machine.execRdFtab n s
  | .rdOut j => Sys2Proof.Machine.execRdOut j s
  | .wrRoErraddr d => Sys2Proof.Machine.execWrRoErraddr d s
  | .wrRoErrdata d => Sys2Proof.Machine.execWrRoErrdata d s
  | .wrRoConfig d => Sys2Proof.Machine.execWrRoConfig d s
  | .wrRoCurnote d => Sys2Proof.Machine.execWrRoCurnote d s
  | .wrRoEnvPhase d => Sys2Proof.Machine.execWrRoEnvPhase d s
  | .wrRoEnvLevel d => Sys2Proof.Machine.execWrRoEnvLevel d s
  | .wrRoEnvCount d => Sys2Proof.Machine.execWrRoEnvCount d s
  | .wrRoEnvLen d => Sys2Proof.Machine.execWrRoEnvLen d s
  | .wrRoEnvTarget d => Sys2Proof.Machine.execWrRoEnvTarget d s
  | .wrRoEnvInc d => Sys2Proof.Machine.execWrRoEnvInc d s
  | .wrRoVoiceFtw d => Sys2Proof.Machine.execWrRoVoiceFtw d s
  | .wrRoVoicePhase d => Sys2Proof.Machine.execWrRoVoicePhase d s
  | .wrRoModPhase d => Sys2Proof.Machine.execWrRoModPhase d s
  | .wrRoFtab n d => Sys2Proof.Machine.execWrRoFtab n d s
  | .wrRoOut j d => Sys2Proof.Machine.execWrRoOut j d s

end Sys2Proof.Machine
end

