-- ==== Sys2Proof/Machine/Transaction.lean ====
section
/-! DEFINITION. How the block takes one event of the host or the platform (20_memory R80, 70_reset R400 to R403, R409). -/

namespace Sys2Proof.Machine

/-- An access the decoder rejects: the error is recorded, a read returns 0, and nothing else changes (R363). -/
def rejectAccess (x : DecodeError) (a : Access) (s : State) : State :=
  if keyWrites a.key then rejectWrite (.ofDecode x) (keyOffset a.key) a.data s
  else rejectRead (.ofDecode x) (keyOffset a.key) s

/-- A transaction: it is decoded and executed, or rejected. -/
def performAccess (a : Access) (s : State) : Host.Outcome State Fault Refusal :=
  match decode a.key a.data with
  | .ok i => exec i s
  | .error x => .next (rejectAccess x a s)

/-- What an access that begins leads to, `go`, where the block can begin it: reset must be released (R400) and have happened
since power-up (R375), and the access must be of a word, any other width being no form of the interface (R73). DESIGN CHOICE
(notes/assumptions/8.md): where both fail, the reset input is looked at first, so an access of another width stops for the
reset and not for its width. -/
def beginAccess (a : Access) (s : State) (go : Host.Outcome State Fault Refusal) : Host.Outcome State Fault Refusal :=
  match s.resetLine with
  | .released => if a.size = 4 then go else .refused .accessWidth
  | .asserted => .fault .transactionInReset
  | .neverReset => .refused .powerUpWithoutReset

/-- One event. DESIGN CHOICE (notes/assumptions/6.md): an access that reset cuts short must have begun, so one that the block
could not begin stops the step as it would without the reset. -/
def performEvent (ev : Event) (s : State) : Host.Outcome State Fault Refusal :=
  match ev with
  | .access a => beginAccess a s (performAccess a s)
  | .assertReset => .next s.hardwareReset
  | .cutShort a => beginAccess a s (.next s.hardwareReset)
  | .releaseReset => .next s.releaseReset
  | .powerLoss => .next s.losePower

/-- The next event, if there is one. A block nothing is asked of keeps its state (R375, R410). -/
def performNext (s : State) : Host.Outcome State Fault Refusal :=
  if s.cfg.Legal then
    match s.pending with
    | [] => .next s
    | ev :: rest => performEvent ev { s with pending := rest }
  else .refused .illegalConfiguration

end Sys2Proof.Machine
end

