-- ==== Sys2Proof/Machine/Step.lean ====
section
/-! DEFINITION. One step of the machine, and how the host places one transaction before it. -/

namespace Sys2Proof.Machine

/-- One step: the next event is taken to completion (R80). -/
def step (s : State) : Host.Outcome State Fault Refusal := performNext s

/-- `s` with the transaction of a table word as the next event, and reset released so that it is accepted
(notes/assumptions/19.md). -/
def State.withFetchWord (s : State) (nbits w : Nat) : State :=
  { s with resetLine := .released, pending := .access (tableAccess nbits w) :: s.pending }

end Sys2Proof.Machine
end

