-- ==== Sys2Proof/Machine/Script.lean ====
section
/-! DEFINITION. The host's side: the host-script operations and pseudo-operations (30_encoding R110, R111), running a script
(70_reset R410), and the host batch procedure (46_host_batch R340 to R346). Nothing here is an operation of the block. -/

namespace Sys2Proof.Machine

/-! ### Host scripts (R110) -/

/-- `reg`: a named register or window entry, or a bare offset (R110). -/
inductive RegRef where
  | named (r : Reg)
  | offset (a : Offset)
  deriving DecidableEq, Repr

/-- The offset a reference stands for. -/
def RegRef.toOffset : RegRef → Offset
  | .named r => r.offset
  | .offset a => a

/-- `op` (R110). Labels and comments have no meaning of their own and are left out. A note may be `0..255`. -/
inductive ScriptOp where
  | nop
  | step
  | press (note : BitVec 8)
  | release (note : BitVec 8)
  /-- `WR reg, value` -/
  | wr (r : RegRef) (v : Word)
  /-- `RD reg -> expect`: the expected value has no effect (R110) -/
  | rd (r : RegRef) (expect : Option Word)
  deriving DecidableEq, Repr

/-- The transaction a script operation assembles to (R110). -/
def ScriptOp.assemble : ScriptOp → Access
  | .nop => ⟨4, writeKey .cmd, cmdWord 0x0#4 0#8⟩
  | .step => ⟨4, writeKey .cmd, cmdWord 0x3#4 0#8⟩
  | .press n => ⟨4, writeKey .cmd, cmdWord 0x1#4 n⟩
  | .release n => ⟨4, writeKey .cmd, cmdWord 0x2#4 n⟩
  | .wr r v => ⟨4, 1#1 ++ r.toOffset, v⟩
  | .rd r _ => ⟨4, 0#1 ++ r.toOffset, 0⟩

/-- The events of a script, in order. -/
def assemble (ops : List ScriptOp) : List Event := ops.map fun o => .access o.assemble

/-! ### Pseudo-operations (R111) -/

/-- `SET_ATTACK v` -/
def setAttack (v : Word) : List ScriptOp := [.wr (.named .attack) v]

/-- `SET_DECAY v` -/
def setDecay (v : Word) : List ScriptOp := [.wr (.named .decay) v]

/-- `SET_SUSTAIN v` -/
def setSustain (v : Word) : List ScriptOp := [.wr (.named .sustain) v]

/-- `SET_RELEASE v` -/
def setRelease (v : Word) : List ScriptOp := [.wr (.named .release) v]

/-- `SET_MOD_FREQUENCY v` -/
def setModFrequency (v : Word) : List ScriptOp := [.wr (.named .modfreq) v]

/-- `SET_MOD_DEPTH v` -/
def setModDepth (v : Word) : List ScriptOp := [.wr (.named .moddepth) v]

/-- `CLRERR` -/
def clrErr : List ScriptOp := [.wr (.named .status) 1]

/-- `RDBLOCK`: `RD OUT[0]` to `RD OUT[B-1]` -/
def rdBlock (b : Nat) : List ScriptOp :=
  (List.range b).map fun j => .rd (.named (.out (BitVec.ofNat 8 j))) none

/-- `RDTABLE`: the frequency-table export (R346) -/
def rdTable : List ScriptOp :=
  (List.range 128).map fun i => .rd (.named (.ftab (BitVec.ofNat 7 i))) none

/-- `REPEAT k { ops }`: the lines written out `k` times -/
def repeatOps (k : Nat) (ops : List ScriptOp) : List ScriptOp := (List.replicate k ops).flatten

/-! ### Note names (R111) -/

/-- The letter of a note name. -/
inductive Letter where
  | c
  | d
  | e
  | f
  | g
  | a
  | b
  deriving DecidableEq, Repr

/-- The pitch class of a letter (R111). -/
def Letter.pitchClass : Letter → Int
  | .c => 0
  | .d => 2
  | .e => 4
  | .f => 5
  | .g => 7
  | .a => 9
  | .b => 11

/-- `12 * (octave + 1) + pc`, plus 1 for `#`, octave `-1..9`; it must lie in `0..127` (R111). -/
def noteOfName (l : Letter) (sharp : Bool) (octave : Int) : Option (BitVec 8) :=
  let n := 12 * (octave + 1) + l.pitchClass + (if sharp then 1 else 0)
  if -1 ≤ octave ∧ octave ≤ 9 ∧ 0 ≤ n ∧ n ≤ 127 then some (BitVec.ofInt 8 n) else none

/-! ### Running a script (R410) -/

/-- `k` steps, stopping at the first fault or refusal. -/
def runSteps : Nat → State → Host.Outcome State Fault Refusal
  | 0, s => .next s
  | k + 1, s =>
    match step s with
    | .next t => runSteps k t
    | .fault r => .fault r
    | .refused r => .refused r

/-- The run of a list of events from `s`: it ends when the last one has been taken (R410). -/
def runEvents (evs : List Event) (s : State) : Host.Outcome State Fault Refusal :=
  runSteps evs.length { s with pending := evs }

/-! ### The host batch procedure (R340, R341) -/

/-- The inputs of the batch procedure, in register formats (R340). -/
structure Batch where
  att : Word
  dec : Word
  sus : Word
  rel : Word
  dep : Word
  mf : Word
  /-- press events `(t, note)`, in order of time -/
  presses : List (Nat × BitVec 8)
  /-- release events `(t, note)`, in order of time -/
  releases : List (Nat × BitVec 8)
  /-- total sample count -/
  n : Nat
  deriving DecidableEq, Repr

/-- The next event of a list, if it is due at block start `s`, and what is left of the list: at most one per block (R341). -/
def takeDue (s : Nat) : List (Nat × BitVec 8) → Option (BitVec 8) × List (Nat × BitVec 8)
  | [] => (none, [])
  | (t, note) :: rest => if t ≤ s then (some note, rest) else (none, (t, note) :: rest)

/-- The blocks of the batch from block number `k` on, `m` of them (R341). -/
def batchBlocks (b : Nat) : Nat → Nat → List (Nat × BitVec 8) → List (Nat × BitVec 8) → List ScriptOp
  | 0, _, _, _ => []
  | m + 1, k, ps, rs =>
    (takeDue (k * b) ps).1.toList.map ScriptOp.press ++
      (takeDue (k * b) rs).1.toList.map ScriptOp.release ++
      ScriptOp.step :: rdBlock b ++
      batchBlocks b m (k + 1) (takeDue (k * b) ps).2 (takeDue (k * b) rs).2

/-- The operations of the batch after its reset (R341), for block size `b`. -/
def Batch.ops (x : Batch) (b : Nat) : List ScriptOp :=
  setAttack x.att ++ setDecay x.dec ++ setSustain x.sus ++ setRelease x.rel ++ setModDepth x.dep ++
    setModFrequency x.mf ++ batchBlocks b (x.n / b) 0 x.presses x.releases

/-- The events of the batch: reset the block, then the operations (R341). -/
def Batch.events (x : Batch) (b : Nat) : List Event :=
  Event.assertReset :: Event.releaseReset :: assemble (x.ops b)

/-- The host buffer after the batch: the samples read (their low 16 bits), then the entries that are not written
(R341, R342). -/
def Batch.buffer (x : Batch) (b : Nat) (reads : List Word) (out : List Sample) : List Sample :=
  (reads.take (x.n / b * b)).map (fun w => w.extractLsb' 0 16) ++ out.drop (x.n / b * b)

/-- The batch procedure on a block with parameters `c` and a host buffer `out`: the buffer after it. -/
def Batch.run (x : Batch) (c : Config) (out : List Sample) : Option (List Sample) :=
  match runEvents (x.events c.blockSize) (State.resetWith c) with
  | .next s => some (x.buffer c.blockSize s.reads out)
  | .fault _ => none
  | .refused _ => none

end Sys2Proof.Machine
end

