-- ==== Sys2Proof/Safety.lean ====
section
/-! DEFINITION. What a safe state is (the invariants of 10_state R34, made inductive) and the terms in which claims about
runs of the units are stated. -/

namespace Sys2Proof.Machine

/-- The phases that are ramps (R200). -/
def Phase.isRamp : Phase → Bool
  | .attack => true
  | .decay => true
  | .release => true
  | .idle => false
  | .sustain => false

/-- The envelope's invariant: the bounds of R34, and what makes them last (R213): each ramp phase has its own target, and
what is left of the increments stays on the near side of the target. -/
structure Env.Inv (e : Env) : Prop where
  level_le : e.level.toNat ≤ one
  target_le : e.target.toNat ≤ one
  inc_ge : -(one : Int) ≤ e.inc.toInt
  inc_le : e.inc.toInt ≤ one
  count_le : e.count.toNat ≤ e.len.toNat
  count_lt : e.phase.isRamp = true → e.count.toNat < e.len.toNat
  idle_level : e.phase = .idle → e.level = 0
  attack_target : e.phase = .attack → e.target = levelOne
  release_target : e.phase = .release → e.target = 0
  on_course : e.phase.isRamp = true →
    (0 ≤ e.inc.toInt ∧
      (e.level.toNat : Int) + ((e.len.toNat : Int) - e.count.toNat) * e.inc.toInt ≤ e.target.toNat) ∨
    (e.inc.toInt ≤ 0 ∧
      (e.target.toNat : Int) ≤ e.level.toNat + ((e.len.toNat : Int) - e.count.toNat) * e.inc.toInt)

/-- The error state's invariant: without ERR nothing is recorded, with it there is a code (R41, R360, R362). -/
def ErrState.Inv (e : ErrState) : Prop :=
  (e.err = false → e = ErrState.clear) ∧ (e.err = true → e.code.isSome = true)

/-- What holds of the elements of a block that has been reset since power-up: R34, legal samples in OUT, a sound error
state, and the fault mark wherever an error is recorded. -/
structure State.Sound (s : State) : Prop where
  env : s.env.Inv
  sustain_le : s.settings.sustain.toNat ≤ one
  depth_le : s.settings.modDepth.toNat ≤ done
  modFtw_le : s.modulator.ftw.toNat ≤ ftwMax
  voiceFtw : s.voice.ftw = 0 ∨ ∃ n, n < 128 ∧ s.voice.ftw = ftabRom s.cfg.fs n
  out_range : ∀ x ∈ s.out, -ampMax ≤ x.toInt ∧ x.toInt ≤ ampMax
  error : s.error.Inv
  mark : s.error.err = true → s.faultMark = true

/-- The invariant of the block: legal parameters, a whole OUT buffer, and sound elements unless power was lost and the block
has not been reset since (R375: what stands in them then is free). -/
structure State.Inv (s : State) : Prop where
  legal : s.cfg.Legal
  out_length : s.out.length = s.cfg.blockSize
  sound : s.resetLine ≠ .neverReset → s.Sound

/-- The step goes on: no fault, no refusal. -/
def Goes (o : Host.Outcome State Fault Refusal) : Prop := ∃ t, o = .next t

/-- The next event of a running block with legal parameters is the access `a`, and `rest` comes after it. -/
structure State.Asks (s : State) (a : Access) (rest : List Event) : Prop where
  legal : s.cfg.Legal
  released : s.resetLine = .released
  pending : s.pending = .access a :: rest

/-- The envelope after `n` samples with the settings `st`. -/
def Env.after (st : Settings) : Nat → Env → Env
  | 0, e => e
  | n + 1, e => Env.after st n (e.step st).1

/-- The level that sample number `k + 1` returns. -/
def Env.levelAt (st : Settings) (k : Nat) (e : Env) : Level := ((e.after st k).step st).2

/-- An envelope that has just entered the ramp `ph` from level `S` to `T` over `N` samples (R204). -/
def Env.atRampStart (ph : Phase) (start target : Level) (n : Word) : Env :=
  ⟨ph, start, 0, n, target, rampInc start target n⟩

/-- STEP in the interleaved order of R292: sample `j` of the voice, then sample `j` of the modulator. -/
def interleaved (st : Settings) : Nat → Osc → Env → Osc → Osc × Env × Osc × List Sample
  | 0, v, e, m => (v, e, m, [])
  | n + 1, v, e, m =>
    match v.tick, e.step st, m.tick with
    | (v₁, a, _), (e₁, l), (m₁, c, _) =>
      match interleaved st n v₁ e₁ m₁ with
      | (v₂, e₂, m₂, xs) =>
        (v₂, e₂, m₂,
          BitVec.ofInt 16 (modApply (BitVec.ofInt 16 (voiceSample a l)).toInt c st.modDepth.toNat) :: xs)

/-- The operations written to CMD (R15). -/
def isCommand : Instr → Bool
  | .nop => true
  | .press _ => true
  | .release _ => true
  | .step => true
  | _ => false

/-- The register reads. -/
def isRead (i : Instr) : Bool := !keyWrites (encodeKey i)

end Sys2Proof.Machine
end

