-- ==== Sys2Proof/Certificates/Slice0/Obligations.lean ====
section
/-! DEFINITION. The statements for the provers. A number in parentheses is the rule of spec/ a statement formalises. -/

open Sys2Proof Sys2Proof.Machine

/-! ### Commands -/

/-- NOP does nothing, and a NOP word with any other bit set is no NOP (R281). -/
def Obligations.NopChangesNothing : Prop :=
  (∀ s : State, exec .nop s = .next s) ∧
  decode 0x1000#13 0#32 = .ok .nop ∧
  ∀ d : Word, d.extractLsb' 28 4 = 0 → d.extractLsb' 0 28 ≠ 0 → decode 0x1000#13 d = .error .reservedBits

/-- PRESS retunes the voice without touching its phase, enters Attack from the current level in every phase, skips
zero-length phases, sets CURNOTE, and changes nothing else (R206, R283). -/
def Obligations.PressRetunesAndEntersAttack : Prop :=
  ∀ (s : State) (note : BitVec 8), note.toNat < 128 →
    exec (.press note) s = .next { s with
      voice := { s.voice with ftw := ftabRom s.cfg.fs note.toNat }
      curNote := note.setWidth 7
      env :=
        if s.settings.attack ≠ 0 then
          ⟨.attack, s.env.level, 0, s.settings.attack, 0x1000000#25,
            BitVec.ofInt 26 ((16777216 - (s.env.level.toNat : Int)).tdiv s.settings.attack.toNat)⟩
        else if s.settings.decay ≠ 0 then
          ⟨.decay, 0x1000000#25, 0, s.settings.decay, s.settings.sustain,
            BitVec.ofInt 26 (((s.settings.sustain.toNat : Int) - 16777216).tdiv s.settings.decay.toNat)⟩
        else ⟨.sustain, s.settings.sustain, 0, 0, s.settings.sustain, 0⟩ }

/-- RELEASE of the current note enters Release from the current level (or goes to Idle at once where `RELEASE = 0`); in
Idle, and for every other note, nothing changes (R207, R285). -/
def Obligations.ReleaseActsOnCurrentNoteOnly : Prop :=
  ∀ (s : State) (note : BitVec 8), note.toNat < 128 →
    exec (.release note) s = .next
      (if note.setWidth 7 = s.curNote ∧ s.env.phase ≠ .idle then
        { s with env :=
            if s.settings.release ≠ 0 then
              ⟨.release, s.env.level, 0, s.settings.release, 0,
                BitVec.ofInt 26 ((-(s.env.level.toNat : Int)).tdiv s.settings.release.toNat)⟩
            else ⟨.idle, 0, 0, 0, 0, 0⟩ }
      else s)

/-- A PRESS or RELEASE term with a NOTE of 128 or more, which no word decodes to, records `E_NOTE_RANGE` with its command
word and changes nothing else. The model's choice (notes/assumptions/11.md). -/
def Obligations.NoteOutOfRangeRecordsError : Prop :=
  ∀ (s : State) (note : BitVec 8), 128 ≤ note.toNat →
    exec (.press note) s = .next (s.raise .noteRange 0x000#12 (0x100000#24 ++ note)) ∧
    exec (.release note) s = .next (s.raise .noteRange 0x000#12 (0x200000#24 ++ note)) ∧
    decode 0x1000#13 (0x100000#24 ++ note) = .error .noteRange ∧
    decode 0x1000#13 (0x200000#24 ++ note) = .error .noteRange

/-- STEP fills all `B` entries of OUT, entry `j` from the phases after `j` ticks and the level of envelope sample `j`,
advances both phases by `B` tuning words and the envelope by `B` samples, and changes nothing else (R293). -/
def Obligations.StepProducesBlock : Prop :=
  ∀ s : State, ∃ t : State, exec .step s = .next t ∧
    t.out.length = s.cfg.blockSize ∧
    (∀ j : Nat, j < s.cfg.blockSize →
      t.out[j]? = some (BitVec.ofInt 16 (modApply
        (BitVec.ofInt 16
          (cosTable ((s.voice.phase + BitVec.ofNat 32 j * s.voice.ftw) >>> 22).toNat *
            ((s.env.levelAt s.settings j).toNat : Int) / 16777216)).toInt
        (cosTable ((s.modulator.phase + BitVec.ofNat 32 j * s.modulator.ftw) >>> 22).toNat)
        s.settings.modDepth.toNat))) ∧
    t = { s with
      voice := { s.voice with phase := s.voice.phase + BitVec.ofNat 32 s.cfg.blockSize * s.voice.ftw }
      modulator :=
        { s.modulator with phase := s.modulator.phase + BitVec.ofNat 32 s.cfg.blockSize * s.modulator.ftw }
      env := s.env.after s.settings s.cfg.blockSize
      out := t.out }

/-- The two passes of STEP and the interleaved order give the same OUT and the same final state (R292). -/
def Obligations.StepPassesEqualInterleaved : Prop :=
  ∀ s : State, exec .step s = .next
    { s with
      voice := (interleaved s.settings s.cfg.blockSize s.voice s.env s.modulator).1
      env := (interleaved s.settings s.cfg.blockSize s.voice s.env s.modulator).2.1
      modulator := (interleaved s.settings s.cfg.blockSize s.voice s.env s.modulator).2.2.1
      out := (interleaved s.settings s.cfg.blockSize s.voice s.env s.modulator).2.2.2 }

/-! ### Setters -/

/-- ATTACK, DECAY and RELEASE take every 32-bit value, and nothing else changes (R300, R301, R303). -/
def Obligations.DurationSettersStoreAnyValue : Prop :=
  ∀ (s : State) (d : Word),
    exec (.wrAttack d) s = .next { s with settings := { s.settings with attack := d } } ∧
    exec (.wrDecay d) s = .next { s with settings := { s.settings with decay := d } } ∧
    exec (.wrRelease d) s = .next { s with settings := { s.settings with release := d } } ∧
    decode 0x1020#13 d = .ok (.wrAttack d) ∧ decode 0x1024#13 d = .ok (.wrDecay d) ∧
    decode 0x102C#13 d = .ok (.wrRelease d)

/-- SUSTAIN stores a value up to ONE, clamps a larger one to ONE and records it (R302). -/
def Obligations.SustainSetterClamps : Prop :=
  ∀ (s : State) (d : Word),
    (d.toNat ≤ 0x1000000 →
      exec (.wrSustain d) s = .next { s with settings := { s.settings with sustain := d.setWidth 25 } }) ∧
    (0x1000000 < d.toNat →
      exec (.wrSustain d) s = .next
        (({ s with settings := { s.settings with sustain := 0x1000000#25 } } : State).raise .clamp 0x028#12 d)) ∧
    decode 0x1028#13 d = .ok (.wrSustain d)

/-- MODFREQ stores a tuning word up to FTW_MAX, clamps a larger one and records it, and keeps MOD_PHASE (R304). -/
def Obligations.ModfreqSetterClamps : Prop :=
  ∀ (s : State) (d : Word),
    (d.toNat ≤ 0x7FFFFFFF →
      exec (.wrModfreq d) s = .next { s with modulator := { s.modulator with ftw := d } }) ∧
    (0x80000000 ≤ d.toNat →
      exec (.wrModfreq d) s = .next
        (({ s with modulator := { s.modulator with ftw := 0x7FFFFFFF#32 } } : State).raise .clamp 0x030#12 d)) ∧
    decode 0x1030#13 d = .ok (.wrModfreq d)

/-- MODDEPTH stores a depth up to DONE, clamps a larger one to DONE and records it (R305). -/
def Obligations.ModdepthSetterClamps : Prop :=
  ∀ (s : State) (d : Word),
    (d.toNat ≤ 0x8000 →
      exec (.wrModdepth d) s = .next { s with settings := { s.settings with modDepth := d.setWidth 16 } }) ∧
    (0x8000 < d.toNat →
      exec (.wrModdepth d) s = .next
        (({ s with settings := { s.settings with modDepth := 0x8000#16 } } : State).raise .clamp 0x034#12 d)) ∧
    decode 0x1034#13 d = .ok (.wrModdepth d)

/-- A STATUS write with bit 0 set clears the whole error state, with bit 0 clear it does nothing, whatever the other bits
(R366). -/
def Obligations.StatusWriteClearsErrors : Prop :=
  ∀ (s : State) (d : Word),
    exec (.wrStatus d) s = .next
      (if d.getLsbD 0 = true then { s with error := ⟨false, false, none, 0, 0⟩ } else s) ∧
    decode 0x1004#13 d = .ok (.wrStatus d)

/-- A legal value written to a settings register is what that register then reads, and every other register of the
window reads as before. -/
def Obligations.SettingReadsBackWhatWasWritten : Prop :=
  ∀ (s t : State) (d : Word) (r : Reg),
    (exec (.wrAttack d) s = .next t → readValue t r = if r = .attack then d else readValue s r) ∧
    (exec (.wrDecay d) s = .next t → readValue t r = if r = .decay then d else readValue s r) ∧
    (exec (.wrRelease d) s = .next t → readValue t r = if r = .release then d else readValue s r) ∧
    (d.toNat ≤ 0x1000000 → exec (.wrSustain d) s = .next t →
      readValue t r = if r = .sustain then d else readValue s r) ∧
    (d.toNat ≤ 0x7FFFFFFF → exec (.wrModfreq d) s = .next t →
      readValue t r = if r = .modfreq then d else readValue s r) ∧
    (d.toNat ≤ 0x8000 → exec (.wrModdepth d) s = .next t →
      readValue t r = if r = .moddepth then d else readValue s r)

/-! ### Register reads -/

/-- CMD reads 0; STATUS, ERRADDR and ERRDATA read the error state (R310, R311, R312, R313). -/
def Obligations.ErrorRegisterReads : Prop :=
  ∀ s : State,
    exec .rdCmd s = .next { s with reads := s.reads ++ [0] } ∧
    exec .rdStatus s = .next { s with reads := s.reads ++
      [0#24 ++
        (match s.error.code with
          | none => 0#4
          | some .misaligned => 1#4
          | some .badAddr => 2#4
          | some .roWrite => 3#4
          | some .badOpcode => 4#4
          | some .reservedBits => 5#4
          | some .noteRange => 6#4
          | some .clamp => 7#4) ++
        0#2 ++ BitVec.ofBool s.error.multi ++ BitVec.ofBool s.error.err] } ∧
    exec .rdErraddr s = .next { s with reads := s.reads ++ [s.error.addr.setWidth 32] } ∧
    exec .rdErrdata s = .next { s with reads := s.reads ++ [s.error.data] } ∧
    ∀ d : Word, decode 0x0000#13 d = .ok .rdCmd ∧ decode 0x0004#13 d = .ok .rdStatus ∧
      decode 0x0008#13 d = .ok .rdErraddr ∧ decode 0x000C#13 d = .ok .rdErrdata

/-- CONFIG reads the block size and CURNOTE the current note (R314, R315). -/
def Obligations.ConfigAndNoteReads : Prop :=
  ∀ s : State,
    exec .rdConfig s = .next { s with reads := s.reads ++ [BitVec.ofNat 32 s.cfg.blockSize] } ∧
    exec .rdCurnote s = .next { s with reads := s.reads ++ [s.curNote.setWidth 32] } ∧
    ∀ d : Word, decode 0x0010#13 d = .ok .rdConfig ∧ decode 0x0014#13 d = .ok .rdCurnote

/-- The settings registers read what they hold (R316, R317, R318, R319, R321, R322). -/
def Obligations.SettingReads : Prop :=
  ∀ s : State,
    exec .rdAttack s = .next { s with reads := s.reads ++ [s.settings.attack] } ∧
    exec .rdDecay s = .next { s with reads := s.reads ++ [s.settings.decay] } ∧
    exec .rdSustain s = .next { s with reads := s.reads ++ [s.settings.sustain.setWidth 32] } ∧
    exec .rdRelease s = .next { s with reads := s.reads ++ [s.settings.release] } ∧
    exec .rdModfreq s = .next { s with reads := s.reads ++ [s.modulator.ftw] } ∧
    exec .rdModdepth s = .next { s with reads := s.reads ++ [s.settings.modDepth.setWidth 32] } ∧
    ∀ d : Word, decode 0x0020#13 d = .ok .rdAttack ∧ decode 0x0024#13 d = .ok .rdDecay ∧
      decode 0x0028#13 d = .ok .rdSustain ∧ decode 0x002C#13 d = .ok .rdRelease ∧
      decode 0x0030#13 d = .ok .rdModfreq ∧ decode 0x0034#13 d = .ok .rdModdepth

/-- The envelope registers read what they hold, the phase as its code, the increment sign-extended (R323 to R328). -/
def Obligations.EnvelopeReads : Prop :=
  ∀ s : State,
    exec .rdEnvPhase s = .next { s with reads := s.reads ++
      [match s.env.phase with
        | .idle => 0#32
        | .attack => 1#32
        | .decay => 2#32
        | .sustain => 3#32
        | .release => 4#32] } ∧
    exec .rdEnvLevel s = .next { s with reads := s.reads ++ [s.env.level.setWidth 32] } ∧
    exec .rdEnvCount s = .next { s with reads := s.reads ++ [s.env.count] } ∧
    exec .rdEnvLen s = .next { s with reads := s.reads ++ [s.env.len] } ∧
    exec .rdEnvTarget s = .next { s with reads := s.reads ++ [s.env.target.setWidth 32] } ∧
    exec .rdEnvInc s = .next { s with reads := s.reads ++ [BitVec.ofInt 32 s.env.inc.toInt] } ∧
    ∀ d : Word, decode 0x0040#13 d = .ok .rdEnvPhase ∧ decode 0x0044#13 d = .ok .rdEnvLevel ∧
      decode 0x0048#13 d = .ok .rdEnvCount ∧ decode 0x004C#13 d = .ok .rdEnvLen ∧
      decode 0x0050#13 d = .ok .rdEnvTarget ∧ decode 0x0054#13 d = .ok .rdEnvInc

/-- The oscillator registers read what they hold (R329, R330, R331). -/
def Obligations.OscillatorReads : Prop :=
  ∀ s : State,
    exec .rdVoiceFtw s = .next { s with reads := s.reads ++ [s.voice.ftw] } ∧
    exec .rdVoicePhase s = .next { s with reads := s.reads ++ [s.voice.phase] } ∧
    exec .rdModPhase s = .next { s with reads := s.reads ++ [s.modulator.phase] } ∧
    ∀ d : Word, decode 0x0058#13 d = .ok .rdVoiceFtw ∧ decode 0x005C#13 d = .ok .rdVoicePhase ∧
      decode 0x0060#13 d = .ok .rdModPhase

/-- Every aligned read key of the FTAB window reads the ROM and changes nothing, every other read key of the window is
misaligned, and a write is WR_RO (R145). -/
def Obligations.FtabReads : Prop :=
  (∀ (s : State) (i : BitVec 7),
    exec (.rdFtab i) s = .next { s with reads := s.reads ++ [ftabRom s.cfg.fs i.toNat] }) ∧
  (∀ (k : Key) (d : Word), k &&& 0x1E03#13 = 0x0400#13 → decode k d = .ok (.rdFtab (k.extractLsb' 2 7))) ∧
  (∀ (k : Key) (d : Word), k &&& 0x1E00#13 = 0x0400#13 → k.extractLsb' 0 2 ≠ 0 → decode k d = .error .misaligned) ∧
  (∀ (k : Key) (d : Word), k &&& 0x1E03#13 = 0x1400#13 → decode k d = .ok (.wrRoFtab (k.extractLsb' 2 7) d))

/-- RD_OUT returns the sample sign-extended for `j < B`, and 0 with `E_BAD_ADDR` for `j ≥ B`. The buffer has `B` entries,
as `StepKeepsInvariant` says of every state that meets the invariant. -/
def Obligations.OutReads : Prop :=
  ∀ (s : State) (j : BitVec 8), s.out.length = s.cfg.blockSize →
    (∀ h : j.toNat < s.out.length,
      exec (.rdOut j) s = .next { s with reads := s.reads ++ [BitVec.ofInt 32 (s.out[j.toNat]'h).toInt] }) ∧
    (s.cfg.blockSize ≤ j.toNat →
      exec (.rdOut j) s = .next ((s.raise .badAddr (BitVec.ofNat 12 (0x800 + 4 * j.toNat)) 0).answer 0)) ∧
    (∀ d : Word, decode (BitVec.ofNat 13 (0x0800 + 4 * j.toNat)) d = .ok (.rdOut j))

/-! ### Writes to read-only registers -/

/-- A write to a read-only register or window is dropped and recorded as `E_RO_WRITE` with its offset and data; one to
`OUT[j]`, `j ≥ B`, as `E_BAD_ADDR` (R332). -/
def Obligations.ReadOnlyWritesAreDropped : Prop :=
  ∀ (s : State) (d : Word),
    exec (.wrRoErraddr d) s = .next (s.raise .roWrite 0x008#12 d) ∧
    exec (.wrRoErrdata d) s = .next (s.raise .roWrite 0x00C#12 d) ∧
    exec (.wrRoConfig d) s = .next (s.raise .roWrite 0x010#12 d) ∧
    exec (.wrRoCurnote d) s = .next (s.raise .roWrite 0x014#12 d) ∧
    exec (.wrRoEnvPhase d) s = .next (s.raise .roWrite 0x040#12 d) ∧
    exec (.wrRoEnvLevel d) s = .next (s.raise .roWrite 0x044#12 d) ∧
    exec (.wrRoEnvCount d) s = .next (s.raise .roWrite 0x048#12 d) ∧
    exec (.wrRoEnvLen d) s = .next (s.raise .roWrite 0x04C#12 d) ∧
    exec (.wrRoEnvTarget d) s = .next (s.raise .roWrite 0x050#12 d) ∧
    exec (.wrRoEnvInc d) s = .next (s.raise .roWrite 0x054#12 d) ∧
    exec (.wrRoVoiceFtw d) s = .next (s.raise .roWrite 0x058#12 d) ∧
    exec (.wrRoVoicePhase d) s = .next (s.raise .roWrite 0x05C#12 d) ∧
    exec (.wrRoModPhase d) s = .next (s.raise .roWrite 0x060#12 d) ∧
    (∀ i : BitVec 7, exec (.wrRoFtab i d) s = .next (s.raise .roWrite (BitVec.ofNat 12 (0x400 + 4 * i.toNat)) d)) ∧
    (∀ j : BitVec 8,
      (j.toNat < s.cfg.blockSize →
        exec (.wrRoOut j d) s = .next (s.raise .roWrite (BitVec.ofNat 12 (0x800 + 4 * j.toNat)) d)) ∧
      (s.cfg.blockSize ≤ j.toNat →
        exec (.wrRoOut j d) s = .next (s.raise .badAddr (BitVec.ofNat 12 (0x800 + 4 * j.toNat)) d)) ∧
      decode (BitVec.ofNat 13 (0x1800 + 4 * j.toNat)) d = .ok (.wrRoOut j d)) ∧
    (∀ i : BitVec 7, decode (BitVec.ofNat 13 (0x1400 + 4 * i.toNat)) d = .ok (.wrRoFtab i d)) ∧
    decode 0x1008#13 d = .ok (.wrRoErraddr d) ∧ decode 0x100C#13 d = .ok (.wrRoErrdata d) ∧
    decode 0x1010#13 d = .ok (.wrRoConfig d) ∧ decode 0x1014#13 d = .ok (.wrRoCurnote d) ∧
    decode 0x1040#13 d = .ok (.wrRoEnvPhase d) ∧ decode 0x1044#13 d = .ok (.wrRoEnvLevel d) ∧
    decode 0x1048#13 d = .ok (.wrRoEnvCount d) ∧ decode 0x104C#13 d = .ok (.wrRoEnvLen d) ∧
    decode 0x1050#13 d = .ok (.wrRoEnvTarget d) ∧ decode 0x1054#13 d = .ok (.wrRoEnvInc d) ∧
    decode 0x1058#13 d = .ok (.wrRoVoiceFtw d) ∧ decode 0x105C#13 d = .ok (.wrRoVoicePhase d) ∧
    decode 0x1060#13 d = .ok (.wrRoModPhase d)

/-! ### Errors -/

/-- Raising an error changes the error state (and the model's own fault mark, notes/assumptions/5.md) only: the first error
is recorded in full, a later one sets MULTI and keeps the first one's information, and after a clear the next is recorded in
full again (R368). -/
def Obligations.FirstErrorIsKept : Prop :=
  ∀ (s : State) (x : Err) (a : Offset) (d : Word),
    (s.error.err = true →
      s.raise x a d = { s with error := { s.error with multi := true }, faultMark := true }) ∧
    (s.error.err = false →
      s.raise x a d = { s with error := ⟨true, s.error.multi, some x, a, d⟩, faultMark := true }) ∧
    (∀ (w : Word) (t : State), w.getLsbD 0 = true → exec (.wrStatus w) s = .next t →
      t.raise x a d = { s with error := ⟨true, false, some x, a, d⟩, faultMark := true })

/-- A step runs the decoded instruction: the event is taken from the list, nothing else is added around `exec`. A table word
placed by `withFetchWord` is run the same way, reset being released and the padding bits ignored, which is the model's choice
(notes/assumptions/19.md). -/
def Obligations.StepRunsDecodedInstruction : Prop :=
  (∀ (s : State) (a : Access) (rest : List Event) (i : Instr),
    s.Asks a rest → a.size = 4 → decode a.key a.data = .ok i →
    step s = exec i { s with pending := rest }) ∧
  (∀ (s : State) (nbits w : Nat) (i : Instr),
    s.cfg.Legal → decodeTableWord nbits w = some i →
    step (s.withFetchWord nbits w) = exec i { s with resetLine := .released })

/-- A step on an access that decodes to no operation records the decoder's error with its offset and write data (0 for a
read), answers 0 to a read, and changes nothing else. -/
def Obligations.StepRecordsRejectedAccess : Prop :=
  ∀ (s : State) (a : Access) (rest : List Event) (x : DecodeError),
    s.Asks a rest → a.size = 4 → decode a.key a.data = .error x →
    step s = .next
      (if a.key.getLsbD 12 = true then
        ({ s with pending := rest } : State).raise (.ofDecode x) (a.key.extractLsb' 0 12) a.data
      else
        (({ s with pending := rest } : State).raise (.ofDecode x) (a.key.extractLsb' 0 12) 0).answer 0)

/-- A misaligned read returns 0 and records `E_MISALIGNED`, a misaligned write is dropped and records it, whether or not
the offset is mapped (R74). -/
def Obligations.MisalignedAccessIsRecorded : Prop :=
  ∀ (s : State) (a : Access) (rest : List Event),
    s.Asks a rest → a.size = 4 → a.key.toNat % 4 ≠ 0 →
    step s = .next
      (if a.key.getLsbD 12 = true then
        ({ s with pending := rest } : State).raise .misaligned (a.key.extractLsb' 0 12) a.data
      else
        (({ s with pending := rest } : State).raise .misaligned (a.key.extractLsb' 0 12) 0).answer 0)

/-- An aligned access to an unmapped offset, the OUT window from `B` on among them, returns 0 to a read, is dropped for a
write, and records `E_BAD_ADDR` (R72). -/
def Obligations.UnmappedAccessIsRecorded : Prop :=
  ∀ (s : State) (a : Access) (rest : List Event),
    s.Asks a rest → a.size = 4 → a.key.toNat % 4 = 0 →
    (let o := (a.key.extractLsb' 0 12).toNat;
      (0x018 ≤ o ∧ o < 0x020) ∨ (0x038 ≤ o ∧ o < 0x040) ∨ (0x064 ≤ o ∧ o < 0x400) ∨ (0x600 ≤ o ∧ o < 0x800) ∨
        0x800 + 4 * s.cfg.blockSize ≤ o) →
    step s = .next
      (if a.key.getLsbD 12 = true then
        ({ s with pending := rest } : State).raise .badAddr (a.key.extractLsb' 0 12) a.data
      else
        (({ s with pending := rest } : State).raise .badAddr (a.key.extractLsb' 0 12) 0).answer 0)

/-- A word written to CMD: the checks in the spec's order, each recorded with offset 0 and the command word, and otherwise
exactly the command the word names (R105, R280). -/
def Obligations.CommandWordIsCheckedThenRun : Prop :=
  ∀ (s : State) (d : Word) (rest : List Event), s.Asks ⟨4, 0x1000#13, d⟩ rest →
    let s' : State := { s with pending := rest }
    let op := (d.extractLsb' 28 4).toNat
    (4 ≤ op → step s = .next (s'.raise .badOpcode 0x000#12 d)) ∧
    ((op = 0 ∨ op = 3) → d.extractLsb' 0 28 ≠ 0 → step s = .next (s'.raise .reservedBits 0x000#12 d)) ∧
    ((op = 1 ∨ op = 2) → d.extractLsb' 8 20 ≠ 0 → step s = .next (s'.raise .reservedBits 0x000#12 d)) ∧
    ((op = 1 ∨ op = 2) → d.extractLsb' 8 20 = 0 → 128 ≤ (d.extractLsb' 0 8).toNat →
      step s = .next (s'.raise .noteRange 0x000#12 d)) ∧
    (op = 0 → d.extractLsb' 0 28 = 0 → step s = exec .nop s') ∧
    (op = 1 → d.extractLsb' 8 20 = 0 → (d.extractLsb' 0 8).toNat < 128 →
      step s = exec (.press (d.extractLsb' 0 8)) s') ∧
    (op = 2 → d.extractLsb' 8 20 = 0 → (d.extractLsb' 0 8).toNat < 128 →
      step s = exec (.release (d.extractLsb' 0 8)) s') ∧
    (op = 3 → d.extractLsb' 0 28 = 0 → step s = exec .step s')

/-- ERR, once set, is cleared only by a write to STATUS with bit 0 set or by reset, or is lost with power. -/
def Obligations.ErrStaysUntilCleared : Prop :=
  ∀ s t : State, step s = .next t → s.error.err = true → t.error.err = false →
    ∃ (ev : Event) (rest : List Event), s.pending = ev :: rest ∧
      ((s.resetLine = .released ∧ ∃ a : Access, ev = .access a ∧ a.size = 4 ∧ a.key = 0x1004#13 ∧
          a.data.getLsbD 0 = true) ∨
        ev = .assertReset ∨ (∃ a : Access, ev = .cutShort a ∧ s.resetLine = .released ∧ a.size = 4) ∨
        ev = .powerLoss)

/-- The model's fault mark: no step clears it, and a step that sets ERR or MULTI sets it (notes/assumptions/5.md),
unless power was lost and what stands in them is free. -/
def Obligations.FaultMarkIsNeverCleared : Prop :=
  ∀ s t : State, step s = .next t →
    (s.faultMark = true → t.faultMark = true) ∧
    (t.resetLine ≠ .neverReset → t.error.err = true → s.error.err = false → t.faultMark = true) ∧
    (t.resetLine ≠ .neverReset → t.error.multi = true → s.error.multi = false → t.faultMark = true)

/-! ### Encoding -/

/-- Words written out from the encodings of R101 and R107, one or two of each shape. -/
def Obligations.DecodeSampleWords : Prop :=
  decodeWord 0b1000000000000_00000000000000000000000000000000#45 = .ok .nop ∧
  decodeWord 0b1000000000000_00010000000000000000000001000101#45 = .ok (.press 69) ∧
  decodeWord 0b1000000000000_00100000000000000000000000111100#45 = .ok (.release 60) ∧
  decodeWord 0b1000000000000_00110000000000000000000000000000#45 = .ok .step ∧
  decodeWord 0b1000000000100_00000000000000000000000000000001#45 = .ok (.wrStatus 1) ∧
  decodeWord 0b1000000110000_10000000000000000000000000000000#45 = .ok (.wrModfreq 0x80000000) ∧
  decodeWord 0b0000001010100_00000000000000000000000000000000#45 = .ok .rdEnvInc ∧
  decodeWord 0b0010100010100_00000000000000000000000000000000#45 = .ok (.rdFtab 69) ∧
  decodeWord 0b0100000111100_00000000000000000000000000000000#45 = .ok (.rdOut 15) ∧
  decodeWord 0b1000000010100_00000000000000000000000000000101#45 = .ok (.wrRoCurnote 5) ∧
  decodeWord 0b1010111111100_00000000000000000000000000000111#45 = .ok (.wrRoFtab 127 7) ∧
  decodeWord 0b1101111111100_00000000000000000000000000000111#45 = .ok (.wrRoOut 255 7)

/-- Decoding the encoding of a well-formed operation gives it back, with every operand at every value. -/
def Obligations.DecodeEncodeRoundTrip : Prop :=
  ∀ i : Instr, WellFormed i → decode (encodeKey i) (encodeData i) = .ok i ∧ decodeWord (encode i) = .ok i

/-- What decodes is well-formed and is re-encoded to the same key, and for a write to the same data word. -/
def Obligations.EncodeDecodeRoundTrip : Prop :=
  ∀ (k : Key) (d : Word) (i : Instr), decode k d = .ok i →
    WellFormed i ∧ encodeKey i = k ∧ (k.getLsbD 12 = true → encodeData i = d)

/-- The decoder and the operation map of opcode_table.json agree: a word that decodes lies in the row of its operation, and
a word that lies in a row decodes to an operation of that row, so no two rows overlap. -/
def Obligations.DecodeAgreesWithOperationMap : Prop :=
  (∀ (w : OpWord) (i : Instr), decodeWord w = .ok i → w &&& i.rowMask = i.rowMatch) ∧
  (∀ (w : OpWord) (i : Instr), w &&& i.rowMask = i.rowMatch →
    ∃ i' : Instr, decodeWord w = .ok i' ∧ i'.rowMask = i.rowMask ∧ i'.rowMatch = i.rowMatch)

/-! ### Reset and the outside -/

/-- Every element at its reset value, for every choice of the parameters; OUT has `B` entries, each some value of
`-AMP_MAX .. AMP_MAX` (R44). Which parameters `State.reset` takes is said by `ResetMeetsInvariant`. -/
def Obligations.ResetValues : Prop :=
  ∀ c : Config,
    (State.resetWith c).cfg = c ∧
    (State.resetWith c).settings = ⟨0, 0, 0x1000000#25, 0, 0⟩ ∧
    (State.resetWith c).curNote = 0 ∧
    (State.resetWith c).env = ⟨.idle, 0, 0, 0, 0, 0⟩ ∧
    (State.resetWith c).voice = ⟨0, 0⟩ ∧
    (State.resetWith c).modulator = ⟨0, 0⟩ ∧
    (State.resetWith c).error = ⟨false, false, none, 0, 0⟩ ∧
    (State.resetWith c).out.length = c.blockSize ∧
    ∀ x ∈ (State.resetWith c).out, -32767 ≤ x.toInt ∧ x.toInt ≤ 32767

/-- Reset asserted at any time, between transactions or within one, brings every element to its reset value, the
transaction in progress having no effect, and OUT is unspecified again; released, the block runs from there. After power loss
the block waits for a reset. The model's choices: the values are taken at the assertion (notes/assumptions/6.md), the fault
mark and the values already read stay (5.md, 3.md), and only a reset that is asserted can be released (7.md). -/
def Obligations.ResetAtAnyTime : Prop :=
  ∀ (s : State) (ev : Event) (rest : List Event), s.cfg.Legal → s.pending = ev :: rest →
    ((ev = .assertReset ∨ ∃ a : Access, ev = .cutShort a ∧ s.resetLine = .released ∧ a.size = 4) →
      ∃ t : State, step s = .next t ∧
        t.settings = ⟨0, 0, 0x1000000#25, 0, 0⟩ ∧ t.curNote = 0 ∧ t.env = ⟨.idle, 0, 0, 0, 0, 0⟩ ∧
        t.voice = ⟨0, 0⟩ ∧ t.modulator = ⟨0, 0⟩ ∧ t.error = ⟨false, false, none, 0, 0⟩ ∧
        t.out.length = s.cfg.blockSize ∧ (∀ x ∈ t.out, -32767 ≤ x.toInt ∧ x.toInt ≤ 32767) ∧
        t.resetLine = .asserted ∧ t.cfg = s.cfg ∧ t.pending = rest ∧ t.reads = s.reads ∧
        t.faultMark = s.faultMark) ∧
    (ev = .releaseReset → s.resetLine = .asserted →
      step s = .next { s with resetLine := .released, pending := rest }) ∧
    (ev = .releaseReset → s.resetLine ≠ .asserted → step s = .next { s with pending := rest }) ∧
    (ev = .powerLoss →
      ∃ t : State, step s = .next t ∧ t.resetLine = .neverReset ∧ t.pending = rest ∧ t.cfg = s.cfg ∧
        t.reads = s.reads ∧ t.faultMark = s.faultMark)

/-- Where the step stops: an access while reset is asserted, one before any reset since power-up, an access that is no word,
a block with illegal parameters (93 U11, U13, U15, U17); and an idle block stays as it is. The model's choices: that a block
size outside 1..256 is refused (notes/assumptions/9.md), that an access which reset would cut short stops in the same
conditions (6.md), that the reset input is looked at before the size (8.md), and the idle block (2.md). -/
def Obligations.StepStopsOutsideTheInterface : Prop :=
  ∀ (s : State) (a : Access) (rest : List Event),
    (¬ s.cfg.Legal → step s = .refused .illegalConfiguration) ∧
    (s.cfg.Legal → s.pending = [] → step s = .next s) ∧
    (s.cfg.Legal → (s.pending = .access a :: rest ∨ s.pending = .cutShort a :: rest) →
      (s.resetLine = .asserted → step s = .fault .transactionInReset) ∧
      (s.resetLine = .neverReset → step s = .refused .powerUpWithoutReset) ∧
      (s.resetLine = .released → a.size ≠ 4 → step s = .refused .accessWidth))

/-! ### Invariants and whole-machine rules -/

/-- The reset state of every legal block is sound and meets the invariant. `State.reset` is such a block's, built with the
spec's default parameters, which is the model's choice (notes/assumptions/1.md). -/
def Obligations.ResetMeetsInvariant : Prop :=
  (∀ c : Config, c.Legal → (State.resetWith c).Inv ∧ (State.resetWith c).Sound) ∧
  State.reset.Inv ∧ State.reset.Sound ∧ State.reset = State.resetWith ⟨16, 48000⟩

/-- Every step keeps the invariant, in every state that meets it: the bounds of the state's elements, a whole OUT buffer and
legal parameters. The model's choices in it: its fault mark (notes/assumptions/5.md), and that the elements are free from a loss
of power to the next reset, so that no bound is claimed there (7.md). -/
def Obligations.StepKeepsInvariant : Prop :=
  ∀ s t : State, s.Inv → step s = .next t →
    t.Inv ∧ (t.resetLine ≠ .neverReset → t.voice.ftw.toNat ≤ ftwMax)

/-- Every operation completes, in every state; and so does every word transaction of a running block. -/
def Obligations.EveryOperationCompletes : Prop :=
  (∀ (i : Instr) (s : State), Goes (exec i s)) ∧
  (∀ (s : State) (a : Access) (rest : List Event), s.Asks a rest → a.size = 4 → Goes (step s))

/-- The parameters are constants: no step changes them. -/
def Obligations.ParametersAreConstant : Prop :=
  ∀ s t : State, step s = .next t → t.cfg = s.cfg

/-- Only commands change the envelope, the voice, the current note, OUT or a phase, and no command changes a setting or
answers a read; nothing executed touches the parameters, the reset input, the events or the draws. -/
def Obligations.OnlyCommandsMoveTheVoice : Prop :=
  ∀ (i : Instr) (s t : State), exec i s = .next t →
    (isCommand i = false →
      t.env = s.env ∧ t.voice = s.voice ∧ t.curNote = s.curNote ∧ t.out = s.out ∧
        t.modulator.phase = s.modulator.phase) ∧
    (isCommand i = true →
      t.settings = s.settings ∧ t.modulator.ftw = s.modulator.ftw ∧ t.reads = s.reads) ∧
    (i ≠ .step → t.out = s.out ∧ t.voice.phase = s.voice.phase ∧ t.modulator.phase = s.modulator.phase) ∧
    ((∀ n, i ≠ .press n) → t.curNote = s.curNote ∧ t.voice.ftw = s.voice.ftw) ∧
    t.cfg = s.cfg ∧ t.resetLine = s.resetLine ∧ t.pending = s.pending ∧ t.draws = s.draws

/-- A read returns one value and has no other effect, except that a read of `OUT[j]` with `j ≥ B` records its error and
returns 0; nothing but a read returns a value. -/
def Obligations.ReadsHaveNoSideEffect : Prop :=
  ∀ (i : Instr) (s t : State), exec i s = .next t →
    (isRead i = true →
      (∃ v : Word, t = { s with reads := s.reads ++ [v] }) ∨
      ∃ j : BitVec 8, i = .rdOut j ∧ s.cfg.blockSize ≤ j.toNat ∧
        t = { s with error := t.error, faultMark := true, reads := s.reads ++ [0] }) ∧
    (isRead i = false → t.reads = s.reads)

/-- Last-note priority: a RELEASE of a note other than the current one changes nothing, so after A and then B are pressed
the release of A is dropped. -/
def Obligations.LastNotePriority : Prop :=
  (∀ (s : State) (n : BitVec 8), n.toNat < 128 → n.toNat ≠ s.curNote.toNat → exec (.release n) s = .next s) ∧
  (∀ (s t₁ t₂ : State) (a b : BitVec 8), a.toNat < 128 → b.toNat < 128 → a ≠ b →
    exec (.press a) s = .next t₁ → exec (.press b) t₁ = .next t₂ → exec (.release a) t₂ = .next t₂)

/-! ### The frequency table -/

/-- Every ROM entry of a legal block is the closed form, in exact real arithmetic, rounded to nearest with ties away from
zero; the ends of the table have the stated bounds; and a block built for another rate is refused (R142). -/
def Obligations.FtabIsRoundedClosedForm : Prop :=
  (∀ fs i : Nat, 25088 ≤ fs → fs ≤ 192000 → i < 128 →
    (((ftabRom fs i).toNat : Int) = round ((2 : ℝ) ^ 32 * 440 * (2 : ℝ) ^ (((i : ℝ) - 69) / 12) / fs) ∧
     ((ftabRom fs i).toNat : Int) =
      round ((2 : ℝ) ^ 32 * (440 * (2 : ℝ) ^ (-(69 : ℝ) / 12)) * (2 : ℝ) ^ ((i : ℝ) / 12) / fs))) ∧
  (∀ fs : Nat, 25088 ≤ fs → fs ≤ 192000 →
    (ftabRom fs 127).toNat ≤ 2 ^ 31 - 1 ∧ 182890 ≤ (ftabRom fs 0).toNat) ∧
  (∀ s : State, (s.cfg.fs < 25088 ∨ 192000 < s.cfg.fs) → step s = .refused .illegalConfiguration)

/-- The ROM of the default sampling rate, entry by entry (R143). -/
def Obligations.FtabDefaultTable : Prop :=
  (List.range 128).map (fun i => (ftabRom 48000 i).toNat) =
  [731558, 775059, 821146, 869974, 921705, 976513, 1034579, 1096099,
   1161276, 1230329, 1303488, 1380998, 1463116, 1550118, 1642292, 1739948,
   1843411, 1953026, 2069159, 2192197, 2322552, 2460658, 2606977, 2761996,
   2926232, 3100235, 3284585, 3479896, 3686822, 3906052, 4138318, 4384395,
   4645104, 4921317, 5213953, 5523991, 5852465, 6200470, 6569170, 6959793,
   7373644, 7812103, 8276635, 8768789, 9290209, 9842633, 10427907, 11047982,
   11704930, 12400941, 13138339, 13919586, 14747287, 15624207, 16553270, 17537579,
   18580418, 19685267, 20855814, 22095965, 23409859, 24801882, 26276679, 27839171] ++
  [29494575, 31248413, 33106541, 35075158, 37160835, 39370534, 41711627, 44191930,
   46819719, 49603764, 52553357, 55678342, 58989149, 62496826, 66213081, 70150316,
   74321671, 78741067, 83423255, 88383859, 93639437, 99207528, 105106715, 111356685,
   117978298, 124993653, 132426162, 140300631, 148643341, 157482134, 166846509, 176767719,
   187278874, 198415056, 210213429, 222713370, 235956596, 249987305, 264852324, 280601263,
   297286682, 314964268, 333693018, 353535438, 374557749, 396830112, 420426858, 445426740,
   471913192, 499974611, 529704648, 561202526, 594573365, 629928537, 667386037, 707070876,
   749115498, 793660223, 840853716, 890853480, 943826385, 999949222, 1059409297, 1122405052]

/-- For every legal sampling rate the table is strictly increasing and its entries are legal tuning words; at 48000 Hz
neighbours have the ratio of a semitone to within 6.7e-7 and entry 0 is the reference frequency to within 1.5e-7. -/
def Obligations.FtabIncreasesBySemitones : Prop :=
  (∀ fs i : Nat, 25088 ≤ fs → fs ≤ 192000 → i < 127 → (ftabRom fs i).toNat < (ftabRom fs (i + 1)).toNat) ∧
  (∀ fs i : Nat, 25088 ≤ fs → fs ≤ 192000 → i < 128 → (ftabRom fs i).toNat ≤ 2 ^ 31 - 1) ∧
  (∀ i : Nat, i < 127 →
    |(((ftabRom 48000 (i + 1)).toNat : ℝ) / (ftabRom 48000 i).toNat) / (2 : ℝ) ^ ((1 : ℝ) / 12) - 1| < 67 / 10 ^ 8) ∧
  |((ftabRom 48000 0).toNat : ℝ) / 2 ^ 32 * 48000 / (440 * (2 : ℝ) ^ (-(69 : ℝ) / 12)) - 1| < 15 / 10 ^ 8

/-! ### The oscillator -/

/-- One tick outputs both channels at the phase before the advance and adds the tuning word modulo 2^32; a retune keeps the
phase, and the next tick outputs the sample at that phase and advances by the new word (R174, R177). Reset leaves both
oscillators at zero. -/
def Obligations.OscillatorTick : Prop :=
  (∀ o : Osc, o.tick =
    (⟨o.ftw, BitVec.ofNat 32 ((o.phase.toNat + o.ftw.toNat) % 2 ^ 32)⟩,
      cosTable (o.phase.toNat / 2 ^ 22), sinTable (o.phase.toNat / 2 ^ 22))) ∧
  (∀ (o : Osc) (w : Word), o.setFreq w = ⟨w, o.phase⟩ ∧
    (o.setFreq w).tick =
      (⟨w, o.phase + w⟩, cosTable (o.phase.toNat / 2 ^ 22), sinTable (o.phase.toNat / 2 ^ 22))) ∧
  (∀ c : Config, (State.resetWith c).voice = ⟨0, 0⟩ ∧ (State.resetWith c).modulator = ⟨0, 0⟩)

/-- After `n` ticks with an unchanged tuning word the phase is `p0 + n*w` and tick `k` output the table entries of
`p0 + k*w`; every output has magnitude at most AMP_MAX, for every run length (R179). -/
def Obligations.OscillatorClosedForm : Prop :=
  ∀ (n : Nat) (o : Osc),
    Osc.steps n o =
      (⟨o.ftw, BitVec.ofNat 32 (o.phase.toNat + n * o.ftw.toNat)⟩,
        (List.range n).map (fun k => cosTable ((o.phase.toNat + k * o.ftw.toNat) % 2 ^ 32 / 2 ^ 22)),
        (List.range n).map (fun k => sinTable ((o.phase.toNat + k * o.ftw.toNat) % 2 ^ 32 / 2 ^ 22))) ∧
    (∀ a ∈ (Osc.steps n o).2.1, |a| ≤ 32767) ∧ (∀ b ∈ (Osc.steps n o).2.2, |b| ≤ 32767)

/-- The first quarter of the cosine table entry by entry, the symmetries that fix the rest of it, its bounds and corner
values, and the sine table as its quarter-cycle shift. -/
def Obligations.CosineTableSymmetry : Prop :=
  (List.range 257).map cosTable =
    [32767, 32766, 32765, 32761, 32757, 32752, 32745, 32737, 32728, 32717, 32705, 32692, 32678, 32663, 32646, 32628,
     32609, 32589, 32567, 32545, 32521, 32495, 32469, 32441, 32412, 32382, 32351, 32318, 32285, 32250, 32213, 32176,
     32137, 32098, 32057, 32014, 31971, 31926, 31880, 31833, 31785, 31736, 31685, 31633, 31580, 31526, 31470, 31414,
     31356, 31297, 31237, 31176, 31113, 31050, 30985, 30919, 30852, 30783, 30714, 30643, 30571, 30498, 30424, 30349] ++
    [30273, 30195, 30117, 30037, 29956, 29874, 29791, 29706, 29621, 29534, 29447, 29358, 29268, 29177, 29085, 28992,
     28898, 28803, 28706, 28609, 28510, 28411, 28310, 28208, 28105, 28001, 27896, 27790, 27683, 27575, 27466, 27356,
     27245, 27133, 27019, 26905, 26790, 26674, 26556, 26438, 26319, 26198, 26077, 25955, 25832, 25708, 25582, 25456,
     25329, 25201, 25072, 24942, 24811, 24680, 24547, 24413, 24279, 24143, 24007, 23870, 23731, 23592, 23452, 23311] ++
    [23170, 23027, 22884, 22739, 22594, 22448, 22301, 22154, 22005, 21856, 21705, 21554, 21403, 21250, 21096, 20942,
     20787, 20631, 20475, 20317, 20159, 20000, 19841, 19680, 19519, 19357, 19195, 19032, 18868, 18703, 18537, 18371,
     18204, 18037, 17869, 17700, 17530, 17360, 17189, 17018, 16846, 16673, 16499, 16325, 16151, 15976, 15800, 15623,
     15446, 15269, 15090, 14912, 14732, 14553, 14372, 14191, 14010, 13828, 13645, 13462, 13279, 13094, 12910, 12725] ++
    [12539, 12353, 12167, 11980, 11793, 11605, 11417, 11228, 11039, 10849, 10659, 10469, 10278, 10087, 9896, 9704,
     9512, 9319, 9126, 8933, 8739, 8545, 8351, 8157, 7962, 7767, 7571, 7375, 7179, 6983, 6786, 6590,
     6393, 6195, 5998, 5800, 5602, 5404, 5205, 5007, 4808, 4609, 4410, 4210, 4011, 3811, 3612, 3412,
     3212, 3012, 2811, 2611, 2410, 2210, 2009, 1809, 1608, 1407, 1206, 1005, 804, 603, 402, 201] ++ [0] ∧
  (∀ i : Nat, i < 1024 → |cosTable i| ≤ 32767) ∧
  (∀ i : Nat, i ≤ 512 → cosTable i = -cosTable (512 - i)) ∧
  (∀ i : Nat, 1 ≤ i → i < 1024 → cosTable i = cosTable (1024 - i)) ∧
  (∀ i : Nat, i < 1024 → sinTable i = cosTable ((((i : Int) - 256) % 1024).toNat)) ∧
  cosTable 0 = 32767 ∧ cosTable 256 = 0 ∧ cosTable 512 = -32767 ∧ cosTable 768 = 0 ∧
  sinTable 0 = 0 ∧ sinTable 256 = 32767 ∧ sinTable 512 = 0 ∧ sinTable 768 = -32767

/-! ### The modulator and the voice product -/

/-- The modulation law, its ranges (so that nothing overflows 16 bits) and its corner cases (R252). -/
def Obligations.ModulationLaw : Prop :=
  ∀ (x m : Int) (d : Nat), -32767 ≤ x → x ≤ 32767 → -32767 ≤ m → m ≤ 32767 → d ≤ 32768 →
    let t := (d : Int) * (32768 - m) / 65536
    let g := 32768 - t
    modApply x m d = x * g / 32768 ∧
    0 ≤ (d : Int) * (32768 - m) ∧ (d : Int) * (32768 - m) ≤ 2 ^ 31 - 32768 ∧
    0 ≤ t ∧ t ≤ 32767 ∧ 1 ≤ g ∧ g ≤ 32768 ∧
    min x 0 ≤ modApply x m d ∧ modApply x m d ≤ max x 0 ∧
    -32767 ≤ modApply x m d ∧ modApply x m d ≤ 32767 ∧
    (x < 0 → modApply x m d < 0) ∧
    (d = 0 → t = 0 ∧ g = 32768 ∧ modApply x m d = x) ∧ (m = 32767 → t = 0 ∧ modApply x m d = x) ∧
    (d = 32768 → m = -32767 →
      t = 32767 ∧ g = 1 ∧ (x = 32767 → modApply x m d = 0) ∧ (x = -32767 → modApply x m d = -1))

/-- Depth 0 leaves every sample of the block unchanged; at full depth the gain goes from 1/32768 to 1. -/
def Obligations.DepthEndPoints : Prop :=
  (∀ (xs : List Sample) (o : Osc), (modStep 0 xs o).2 = xs) ∧
  (∀ s t : State, s.settings.modDepth = 0 → exec .step s = .next t →
    t.out = (voiceStep s.settings s.cfg.blockSize s.voice s.env).2.2) ∧
  32768 - modCut (-32767) 32768 = 1 ∧ 32768 - modCut 32767 32768 = 32768 ∧
  (∀ m : Int, -32767 ≤ m → m ≤ 32767 → 1 ≤ 32768 - modCut m 32768 ∧ 32768 - modCut m 32768 ≤ 32768)

/-- The voice product: the floor of `a * l / 2^24`, never larger than AMP_MAX, exact at full level and 0 at level 0. -/
def Obligations.VoiceProductBounded : Prop :=
  ∀ (a : Int) (l : Level), -32767 ≤ a → a ≤ 32767 → l.toNat ≤ 16777216 →
    voiceSample a l = a * l.toNat / 16777216 ∧
    -32767 ≤ voiceSample a l ∧ voiceSample a l ≤ 32767 ∧
    (l.toNat = 16777216 → voiceSample a l = a) ∧ (l.toNat = 0 → voiceSample a l = 0)

/-! ### The envelope -/

/-- One envelope sample: Idle returns 0, Sustain its level; a ramp counts up and adds its increment, and its last sample
returns exactly the target and then enters the next phase, skipping a zero-length Decay; the count never passes the length
(R208). -/
def Obligations.EnvelopeSample : Prop :=
  ∀ (st : Settings) (e : Env),
    (e.phase = .idle → e.step st = (e, 0)) ∧
    (e.phase = .sustain → e.step st = (e, e.level)) ∧
    (∀ l : Level, e.phase.isRamp = true → e.count.toNat + 1 < e.len.toNat →
      (l.toNat : Int) = e.level.toNat + e.inc.toInt →
      e.step st = ({ e with count := e.count + 1, level := l }, l)) ∧
    (e.count.toNat + 1 = e.len.toNat →
      (e.phase = .decay →
        e.step st = ({ e with phase := .sustain, count := 0, level := e.target }, e.target)) ∧
      (e.phase = .release →
        e.step st = ({ e with phase := .idle, count := 0, level := 0 }, e.target)) ∧
      (e.phase = .attack → st.decay ≠ 0 →
        e.step st = (⟨.decay, e.target, 0, st.decay, st.sustain,
          BitVec.ofInt 26 (((st.sustain.toNat : Int) - 16777216).tdiv st.decay.toNat)⟩, e.target)) ∧
      (e.phase = .attack → st.decay = 0 →
        e.step st = (⟨.sustain, st.sustain, 0, 0, st.sustain, 0⟩, e.target))) ∧
    (e.count.toNat ≤ e.len.toNat → (e.phase.isRamp = true → e.count.toNat < e.len.toNat) →
      (e.step st).1.count.toNat ≤ (e.step st).1.len.toNat ∧
      ((e.step st).1.phase.isRamp = true → (e.step st).1.count.toNat < (e.step st).1.len.toNat))

/-- The trajectory of a ramp from `S` to `T` over `N` samples: sample `k < N` returns `S + k*I`, sample `N` returns exactly
`T`, and then the ramp's phase has been left (R209). -/
def Obligations.RampTrajectory : Prop :=
  ∀ (st : Settings) (ph : Phase) (start target : Level) (n : Word),
    ph.isRamp = true → start.toNat ≤ 16777216 → target.toNat ≤ 16777216 → n ≠ 0 →
    (∀ k : Nat, 1 ≤ k → k < n.toNat →
      (((Env.atRampStart ph start target n).levelAt st (k - 1)).toNat : Int) =
        start.toNat + k * ((target.toNat : Int) - start.toNat).tdiv n.toNat ∧
      ((Env.atRampStart ph start target n).after st k).phase = ph) ∧
    (Env.atRampStart ph start target n).levelAt st (n.toNat - 1) = target ∧
    ((Env.atRampStart ph start target n).after st n.toNat).phase ≠ ph

/-- Every level a ramp returns lies between its start and its target, within one ramp the levels are monotone, and a ramp
shorter in value than in time holds its start until its last sample. -/
def Obligations.RampIsMonotoneAndBounded : Prop :=
  ∀ (st : Settings) (ph : Phase) (start target : Level) (n : Word) (k : Nat),
    ph.isRamp = true → start.toNat ≤ 16777216 → target.toNat ≤ 16777216 → k < n.toNat →
    let e := Env.atRampStart ph start target n
    min start.toNat target.toNat ≤ (e.levelAt st k).toNat ∧
    (e.levelAt st k).toNat ≤ max start.toNat target.toNat ∧
    (k + 1 < n.toNat → start.toNat ≤ target.toNat → (e.levelAt st k).toNat ≤ (e.levelAt st (k + 1)).toNat) ∧
    (k + 1 < n.toNat → target.toNat ≤ start.toNat → (e.levelAt st (k + 1)).toNat ≤ (e.levelAt st k).toNat) ∧
    (k + 1 < n.toNat → start.toNat < target.toNat + n.toNat → target.toNat < start.toNat + n.toNat →
      e.levelAt st k = start)

/-- With all durations 0 and full sustain: the sample after a press returns 1.0, the sample after a release 0 (R210). -/
def Obligations.ZeroLengthPhases : Prop :=
  ∀ (st : Settings) (e : Env),
    st.attack = 0 → st.decay = 0 → st.release = 0 → st.sustain = 0x1000000#25 →
    (e.press st).phase = .sustain ∧ (e.press st).level = 0x1000000#25 ∧
    ((e.press st).step st).2 = 0x1000000#25 ∧
    ((e.phase = .idle → e.level = 0) →
      (e.release st).phase = .idle ∧ (e.release st).level = 0 ∧ ((e.release st).step st).2 = 0)

/-- From a press held for at least attack + decay samples, with unchanged settings, the envelope is in Sustain at exactly
the sustain level and returns it for ever. -/
def Obligations.HeldNoteReachesSustain : Prop :=
  ∀ (st : Settings) (e : Env) (n : Nat),
    e.level.toNat ≤ 16777216 → st.sustain.toNat ≤ 16777216 → st.attack.toNat + st.decay.toNat ≤ n →
    ((e.press st).after st n).phase = .sustain ∧
    ((e.press st).after st n).level = st.sustain ∧
    (e.press st).levelAt st n = st.sustain

/-- After a release over `R ≥ 1` samples the level falls monotonically from the level at the release to 0 at sample `R`,
and from then on the envelope is Idle and returns 0. -/
def Obligations.ReleaseFallsToIdle : Prop :=
  ∀ (st : Settings) (e : Env),
    e.level.toNat ≤ 16777216 → e.phase ≠ .idle → st.release ≠ 0 →
    ((e.release st).levelAt st 0).toNat ≤ e.level.toNat ∧
    (∀ k : Nat, ((e.release st).levelAt st (k + 1)).toNat ≤ ((e.release st).levelAt st k).toNat) ∧
    (e.release st).levelAt st (st.release.toNat - 1) = 0 ∧
    (∀ n : Nat, st.release.toNat ≤ n →
      ((e.release st).after st n).phase = .idle ∧ (e.release st).levelAt st n = 0)

/-! ### The host batch procedure -/

/-- The batch procedure issues exactly `floor(n / B)` STEPs and reads exactly `floor(n / B) * B` samples, entries of
OUT, into the host buffer, and leaves the buffer from there on untouched; and on every legal block its run completes (R342). -/
def Obligations.BatchTruncatesToWholeBlocks : Prop :=
  (∀ (x : Batch) (b : Nat), 1 ≤ b → b ≤ 256 →
    (x.events b).countP (fun ev => decide (ev = .access ⟨4, 0x1000#13, 0x30000000#32⟩)) = x.n / b ∧
    (x.events b).countP (fun ev => match ev with
      | .access a => !a.key.getLsbD 12
      | _ => false) = x.n / b * b ∧
    (∀ a : Access, Event.access a ∈ x.events b → a.key.getLsbD 12 = false →
      ∃ j : Nat, j < b ∧ a.key = BitVec.ofNat 13 (0x0800 + 4 * j)) ∧
    (∀ (reads : List Word) (out : List Sample), reads.length = x.n / b * b → out.length = x.n →
      (x.buffer b reads out).length = x.n ∧
      (∀ k : Nat, x.n / b * b ≤ k → (x.buffer b reads out)[k]? = out[k]?) ∧
      (∀ k : Nat, k < x.n / b * b → (x.buffer b reads out)[k]? = (reads[k]?).map (fun w => w.setWidth 16)))) ∧
  (∀ (x : Batch) (c : Config) (out : List Sample), c.Legal → out.length = x.n →
    ∃ (t : State) (buf : List Sample),
      runEvents (x.events c.blockSize) (State.resetWith c) = .next t ∧
      t.reads.length = x.n / c.blockSize * c.blockSize ∧
      x.run c out = some buf ∧ buf.length = x.n ∧
      (∀ k : Nat, x.n / c.blockSize * c.blockSize ≤ k → buf[k]? = out[k]?) ∧
      (∀ k : Nat, k < x.n / c.blockSize * c.blockSize → buf[k]? = (t.reads[k]?).map (fun w => w.setWidth 16)))

/-! ### Power -/

/-- The state does not survive a loss of power: what the step of a loss leaves is the same whatever the block held, and a reset
asserted next leaves every element at its reset value. What stands in the elements in between is free, and the parameters and
what is not the block's stay (the model's choice, notes/assumptions/7.md). -/
def Obligations.PowerLossForgetsState : Prop :=
  (∀ (s s' : State) (rest : List Event), s.cfg.Legal → s.cfg = s'.cfg → s.draws = s'.draws → s.reads = s'.reads →
    s.faultMark = s'.faultMark → s.pending = .powerLoss :: rest → s'.pending = .powerLoss :: rest →
    ∃ t : State, step s = .next t ∧ step s' = .next t ∧ t.resetLine = .neverReset ∧
      t.out.length = s.cfg.blockSize) ∧
  (∀ (s : State) (rest : List Event), s.cfg.Legal → s.pending = .powerLoss :: .assertReset :: rest →
    ∃ t u : State, step s = .next t ∧ step t = .next u ∧
      u = { State.resetWith s.cfg with
        out := u.out, resetLine := .asserted, draws := u.draws, pending := rest, reads := s.reads, faultMark := s.faultMark })
end

