-- ==== Sys2Proof/Laws/Decode.lean ====
section
/-! SUPPORT. The register map read in both directions, and the parts of a key and an operation word. -/

namespace Sys2Proof

/-- An offset of the map is aligned. -/
theorem Reg.offset_aligned (r : Reg) : r.offset.extractLsb' 0 2 = 0#2 := by
  cases r with
  | ftab i => revert i; decide
  | out j => revert j; decide
  | _ => decide

/-- The offset of a register selects it (R71). -/
theorem regAt_offset (r : Reg) : regAt r.offset = some r := by
  cases r with
  | ftab i => revert i; decide
  | out j => revert j; decide
  | _ => decide

/-- The lower part of two joined bit vectors. -/
theorem extract_low {w v n : Nat} (x : BitVec w) (y : BitVec v) (h : n = v) :
    BitVec.extractLsb' 0 n (x ++ y) = y.setWidth n := by
  subst h
  apply BitVec.eq_of_getLsbD_eq
  intro i hi
  simp [BitVec.getLsbD_append, hi]

/-- The upper part of two joined bit vectors. -/
theorem extract_high {w v n : Nat} (x : BitVec w) (y : BitVec v) (h : n = w) :
    BitVec.extractLsb' v n (x ++ y) = x.setWidth n := by
  subst h
  apply BitVec.eq_of_getLsbD_eq
  intro i hi
  simp [BitVec.getLsbD_append, hi]

/-- The offset of a write key. -/
@[simp] theorem keyOffset_writeKey (r : Reg) : keyOffset (writeKey r) = r.offset :=
  (extract_low 1#1 r.offset rfl).trans (BitVec.setWidth_eq _)

/-- The offset of a read key. -/
@[simp] theorem keyOffset_readKey (r : Reg) : keyOffset (readKey r) = r.offset :=
  (extract_low 0#1 r.offset rfl).trans (BitVec.setWidth_eq _)

/-- A write key writes. -/
@[simp] theorem keyWrites_writeKey (r : Reg) : keyWrites (writeKey r) = true := by
  have h : (1#1 ++ r.offset).getLsbD 12 = true := by rw [BitVec.getLsbD_append]; rfl
  exact h

/-- A read key does not write. -/
@[simp] theorem keyWrites_readKey (r : Reg) : keyWrites (readKey r) = false := by
  have h : (0#1 ++ r.offset).getLsbD 12 = false := by rw [BitVec.getLsbD_append]; rfl
  exact h

/-- Decoding a write to a register of the map. -/
theorem decode_writeKey (r : Reg) (d : Word) : decode (writeKey r) d = decodeWrite r d := by
  simp [decode, Reg.offset_aligned, regAt_offset]

/-- Decoding a read of a register of the map. -/
theorem decode_readKey (r : Reg) (d : Word) : decode (readKey r) d = .ok (decodeRead r) := by
  simp [decode, Reg.offset_aligned, regAt_offset]

/-- The key of an operation word. -/
@[simp] theorem opWord_key (k : Key) (d : Word) : (opWord k d).extractLsb' 32 13 = k :=
  (extract_high k d rfl).trans (BitVec.setWidth_eq _)

/-- The data of an operation word. -/
@[simp] theorem opWord_data (k : Key) (d : Word) : (opWord k d).extractLsb' 0 32 = d :=
  (extract_low k d rfl).trans (BitVec.setWidth_eq _)

end Sys2Proof
end

