-- ==== Sys2Proof/Laws/State.lean ====
section
/-! SUPPORT. What each named update of the state does to each field. -/

namespace Sys2Proof.Machine

/-! ### State.raise -/

@[simp] theorem State.raise_cfg (s : State) (x : Err) (addr : Offset) (data : Word) :
    (s.raise x addr data).cfg = s.cfg := rfl
@[simp] theorem State.raise_settings (s : State) (x : Err) (addr : Offset) (data : Word) :
    (s.raise x addr data).settings = s.settings := rfl
@[simp] theorem State.raise_curNote (s : State) (x : Err) (addr : Offset) (data : Word) :
    (s.raise x addr data).curNote = s.curNote := rfl
@[simp] theorem State.raise_env (s : State) (x : Err) (addr : Offset) (data : Word) :
    (s.raise x addr data).env = s.env := rfl
@[simp] theorem State.raise_voice (s : State) (x : Err) (addr : Offset) (data : Word) :
    (s.raise x addr data).voice = s.voice := rfl
@[simp] theorem State.raise_modulator (s : State) (x : Err) (addr : Offset) (data : Word) :
    (s.raise x addr data).modulator = s.modulator := rfl
@[simp] theorem State.raise_out (s : State) (x : Err) (addr : Offset) (data : Word) :
    (s.raise x addr data).out = s.out := rfl
@[simp] theorem State.raise_error (s : State) (x : Err) (addr : Offset) (data : Word) :
    (s.raise x addr data).error = s.error.record x addr data := rfl
@[simp] theorem State.raise_resetLine (s : State) (x : Err) (addr : Offset) (data : Word) :
    (s.raise x addr data).resetLine = s.resetLine := rfl
@[simp] theorem State.raise_draws (s : State) (x : Err) (addr : Offset) (data : Word) :
    (s.raise x addr data).draws = s.draws := rfl
@[simp] theorem State.raise_pending (s : State) (x : Err) (addr : Offset) (data : Word) :
    (s.raise x addr data).pending = s.pending := rfl
@[simp] theorem State.raise_reads (s : State) (x : Err) (addr : Offset) (data : Word) :
    (s.raise x addr data).reads = s.reads := rfl
@[simp] theorem State.raise_faultMark (s : State) (x : Err) (addr : Offset) (data : Word) :
    (s.raise x addr data).faultMark = true := rfl

/-! ### State.clearErrors -/

@[simp] theorem State.clearErrors_cfg (s : State) :
    s.clearErrors.cfg = s.cfg := rfl
@[simp] theorem State.clearErrors_settings (s : State) :
    s.clearErrors.settings = s.settings := rfl
@[simp] theorem State.clearErrors_curNote (s : State) :
    s.clearErrors.curNote = s.curNote := rfl
@[simp] theorem State.clearErrors_env (s : State) :
    s.clearErrors.env = s.env := rfl
@[simp] theorem State.clearErrors_voice (s : State) :
    s.clearErrors.voice = s.voice := rfl
@[simp] theorem State.clearErrors_modulator (s : State) :
    s.clearErrors.modulator = s.modulator := rfl
@[simp] theorem State.clearErrors_out (s : State) :
    s.clearErrors.out = s.out := rfl
@[simp] theorem State.clearErrors_error (s : State) :
    s.clearErrors.error = ErrState.clear := rfl
@[simp] theorem State.clearErrors_resetLine (s : State) :
    s.clearErrors.resetLine = s.resetLine := rfl
@[simp] theorem State.clearErrors_draws (s : State) :
    s.clearErrors.draws = s.draws := rfl
@[simp] theorem State.clearErrors_pending (s : State) :
    s.clearErrors.pending = s.pending := rfl
@[simp] theorem State.clearErrors_reads (s : State) :
    s.clearErrors.reads = s.reads := rfl
@[simp] theorem State.clearErrors_faultMark (s : State) :
    s.clearErrors.faultMark = s.faultMark := rfl

/-! ### State.answer -/

@[simp] theorem State.answer_cfg (s : State) (v : Word) :
    (s.answer v).cfg = s.cfg := rfl
@[simp] theorem State.answer_settings (s : State) (v : Word) :
    (s.answer v).settings = s.settings := rfl
@[simp] theorem State.answer_curNote (s : State) (v : Word) :
    (s.answer v).curNote = s.curNote := rfl
@[simp] theorem State.answer_env (s : State) (v : Word) :
    (s.answer v).env = s.env := rfl
@[simp] theorem State.answer_voice (s : State) (v : Word) :
    (s.answer v).voice = s.voice := rfl
@[simp] theorem State.answer_modulator (s : State) (v : Word) :
    (s.answer v).modulator = s.modulator := rfl
@[simp] theorem State.answer_out (s : State) (v : Word) :
    (s.answer v).out = s.out := rfl
@[simp] theorem State.answer_error (s : State) (v : Word) :
    (s.answer v).error = s.error := rfl
@[simp] theorem State.answer_resetLine (s : State) (v : Word) :
    (s.answer v).resetLine = s.resetLine := rfl
@[simp] theorem State.answer_draws (s : State) (v : Word) :
    (s.answer v).draws = s.draws := rfl
@[simp] theorem State.answer_pending (s : State) (v : Word) :
    (s.answer v).pending = s.pending := rfl
@[simp] theorem State.answer_reads (s : State) (v : Word) :
    (s.answer v).reads = s.reads ++ [v] := rfl
@[simp] theorem State.answer_faultMark (s : State) (v : Word) :
    (s.answer v).faultMark = s.faultMark := rfl

/-! ### State.losePower -/

@[simp] theorem State.losePower_cfg (s : State) :
    s.losePower.cfg = s.cfg := rfl
@[simp] theorem State.losePower_settings (s : State) :
    s.losePower.settings = Settings.lost s.draws := rfl
@[simp] theorem State.losePower_curNote (s : State) :
    s.losePower.curNote = lostBits 7 (s.draws + 5) := rfl
@[simp] theorem State.losePower_env (s : State) :
    s.losePower.env = Env.lost (s.draws + 6) := rfl
@[simp] theorem State.losePower_voice (s : State) :
    s.losePower.voice = Osc.lost (s.draws + 12) := rfl
@[simp] theorem State.losePower_modulator (s : State) :
    s.losePower.modulator = Osc.lost (s.draws + 14) := rfl
@[simp] theorem State.losePower_out (s : State) :
    s.losePower.out = lostOut s.cfg.blockSize (s.draws + 21) := rfl
@[simp] theorem State.losePower_error (s : State) :
    s.losePower.error = ErrState.lost (s.draws + 16) := rfl
@[simp] theorem State.losePower_resetLine (s : State) :
    s.losePower.resetLine = .neverReset := rfl
@[simp] theorem State.losePower_draws (s : State) :
    s.losePower.draws = s.draws + 21 + s.cfg.blockSize := rfl
@[simp] theorem State.losePower_pending (s : State) :
    s.losePower.pending = s.pending := rfl
@[simp] theorem State.losePower_reads (s : State) :
    s.losePower.reads = s.reads := rfl
@[simp] theorem State.losePower_faultMark (s : State) :
    s.losePower.faultMark = s.faultMark := rfl

/-! ### State.hardwareReset -/

@[simp] theorem State.hardwareReset_cfg (s : State) :
    s.hardwareReset.cfg = s.cfg := rfl
@[simp] theorem State.hardwareReset_settings (s : State) :
    s.hardwareReset.settings = Settings.reset := rfl
@[simp] theorem State.hardwareReset_curNote (s : State) :
    s.hardwareReset.curNote = 0 := rfl
@[simp] theorem State.hardwareReset_env (s : State) :
    s.hardwareReset.env = Env.reset := rfl
@[simp] theorem State.hardwareReset_voice (s : State) :
    s.hardwareReset.voice = Osc.reset := rfl
@[simp] theorem State.hardwareReset_modulator (s : State) :
    s.hardwareReset.modulator = Osc.reset := rfl
@[simp] theorem State.hardwareReset_out (s : State) :
    s.hardwareReset.out = drawSamples s.cfg.blockSize s.draws := rfl
@[simp] theorem State.hardwareReset_error (s : State) :
    s.hardwareReset.error = ErrState.clear := rfl
@[simp] theorem State.hardwareReset_resetLine (s : State) :
    s.hardwareReset.resetLine = .asserted := rfl
@[simp] theorem State.hardwareReset_draws (s : State) :
    s.hardwareReset.draws = s.draws + s.cfg.blockSize := rfl
@[simp] theorem State.hardwareReset_pending (s : State) :
    s.hardwareReset.pending = s.pending := rfl
@[simp] theorem State.hardwareReset_reads (s : State) :
    s.hardwareReset.reads = s.reads := rfl
@[simp] theorem State.hardwareReset_faultMark (s : State) :
    s.hardwareReset.faultMark = s.faultMark := rfl

/-! ### State.voicePress -/

@[simp] theorem State.voicePress_cfg (s : State) (w : Word) :
    (s.voicePress w).cfg = s.cfg := rfl
@[simp] theorem State.voicePress_settings (s : State) (w : Word) :
    (s.voicePress w).settings = s.settings := rfl
@[simp] theorem State.voicePress_curNote (s : State) (w : Word) :
    (s.voicePress w).curNote = s.curNote := rfl
@[simp] theorem State.voicePress_env (s : State) (w : Word) :
    (s.voicePress w).env = s.env.press s.settings := rfl
@[simp] theorem State.voicePress_voice (s : State) (w : Word) :
    (s.voicePress w).voice = s.voice.setFreq w := rfl
@[simp] theorem State.voicePress_modulator (s : State) (w : Word) :
    (s.voicePress w).modulator = s.modulator := rfl
@[simp] theorem State.voicePress_out (s : State) (w : Word) :
    (s.voicePress w).out = s.out := rfl
@[simp] theorem State.voicePress_error (s : State) (w : Word) :
    (s.voicePress w).error = s.error := rfl
@[simp] theorem State.voicePress_resetLine (s : State) (w : Word) :
    (s.voicePress w).resetLine = s.resetLine := rfl
@[simp] theorem State.voicePress_draws (s : State) (w : Word) :
    (s.voicePress w).draws = s.draws := rfl
@[simp] theorem State.voicePress_pending (s : State) (w : Word) :
    (s.voicePress w).pending = s.pending := rfl
@[simp] theorem State.voicePress_reads (s : State) (w : Word) :
    (s.voicePress w).reads = s.reads := rfl
@[simp] theorem State.voicePress_faultMark (s : State) (w : Word) :
    (s.voicePress w).faultMark = s.faultMark := rfl

/-! ### State.voiceRelease -/

@[simp] theorem State.voiceRelease_cfg (s : State) :
    s.voiceRelease.cfg = s.cfg := rfl
@[simp] theorem State.voiceRelease_settings (s : State) :
    s.voiceRelease.settings = s.settings := rfl
@[simp] theorem State.voiceRelease_curNote (s : State) :
    s.voiceRelease.curNote = s.curNote := rfl
@[simp] theorem State.voiceRelease_env (s : State) :
    s.voiceRelease.env = s.env.release s.settings := rfl
@[simp] theorem State.voiceRelease_voice (s : State) :
    s.voiceRelease.voice = s.voice := rfl
@[simp] theorem State.voiceRelease_modulator (s : State) :
    s.voiceRelease.modulator = s.modulator := rfl
@[simp] theorem State.voiceRelease_out (s : State) :
    s.voiceRelease.out = s.out := rfl
@[simp] theorem State.voiceRelease_error (s : State) :
    s.voiceRelease.error = s.error := rfl
@[simp] theorem State.voiceRelease_resetLine (s : State) :
    s.voiceRelease.resetLine = s.resetLine := rfl
@[simp] theorem State.voiceRelease_draws (s : State) :
    s.voiceRelease.draws = s.draws := rfl
@[simp] theorem State.voiceRelease_pending (s : State) :
    s.voiceRelease.pending = s.pending := rfl
@[simp] theorem State.voiceRelease_reads (s : State) :
    s.voiceRelease.reads = s.reads := rfl
@[simp] theorem State.voiceRelease_faultMark (s : State) :
    s.voiceRelease.faultMark = s.faultMark := rfl

/-! ### State.cmdPress -/

@[simp] theorem State.cmdPress_cfg (s : State) (n : BitVec 7) :
    (s.cmdPress n).cfg = s.cfg := rfl
@[simp] theorem State.cmdPress_settings (s : State) (n : BitVec 7) :
    (s.cmdPress n).settings = s.settings := rfl
@[simp] theorem State.cmdPress_curNote (s : State) (n : BitVec 7) :
    (s.cmdPress n).curNote = n := rfl
@[simp] theorem State.cmdPress_env (s : State) (n : BitVec 7) :
    (s.cmdPress n).env = s.env.press s.settings := rfl
@[simp] theorem State.cmdPress_voice (s : State) (n : BitVec 7) :
    (s.cmdPress n).voice = s.voice.setFreq (ftabRom s.cfg.fs n.toNat) := rfl
@[simp] theorem State.cmdPress_modulator (s : State) (n : BitVec 7) :
    (s.cmdPress n).modulator = s.modulator := rfl
@[simp] theorem State.cmdPress_out (s : State) (n : BitVec 7) :
    (s.cmdPress n).out = s.out := rfl
@[simp] theorem State.cmdPress_error (s : State) (n : BitVec 7) :
    (s.cmdPress n).error = s.error := rfl
@[simp] theorem State.cmdPress_resetLine (s : State) (n : BitVec 7) :
    (s.cmdPress n).resetLine = s.resetLine := rfl
@[simp] theorem State.cmdPress_draws (s : State) (n : BitVec 7) :
    (s.cmdPress n).draws = s.draws := rfl
@[simp] theorem State.cmdPress_pending (s : State) (n : BitVec 7) :
    (s.cmdPress n).pending = s.pending := rfl
@[simp] theorem State.cmdPress_reads (s : State) (n : BitVec 7) :
    (s.cmdPress n).reads = s.reads := rfl
@[simp] theorem State.cmdPress_faultMark (s : State) (n : BitVec 7) :
    (s.cmdPress n).faultMark = s.faultMark := rfl

/-! ### State.withFetchWord -/

@[simp] theorem State.withFetchWord_cfg (s : State) (nbits w : Nat) :
    (s.withFetchWord nbits w).cfg = s.cfg := rfl
@[simp] theorem State.withFetchWord_settings (s : State) (nbits w : Nat) :
    (s.withFetchWord nbits w).settings = s.settings := rfl
@[simp] theorem State.withFetchWord_curNote (s : State) (nbits w : Nat) :
    (s.withFetchWord nbits w).curNote = s.curNote := rfl
@[simp] theorem State.withFetchWord_env (s : State) (nbits w : Nat) :
    (s.withFetchWord nbits w).env = s.env := rfl
@[simp] theorem State.withFetchWord_voice (s : State) (nbits w : Nat) :
    (s.withFetchWord nbits w).voice = s.voice := rfl
@[simp] theorem State.withFetchWord_modulator (s : State) (nbits w : Nat) :
    (s.withFetchWord nbits w).modulator = s.modulator := rfl
@[simp] theorem State.withFetchWord_out (s : State) (nbits w : Nat) :
    (s.withFetchWord nbits w).out = s.out := rfl
@[simp] theorem State.withFetchWord_error (s : State) (nbits w : Nat) :
    (s.withFetchWord nbits w).error = s.error := rfl
@[simp] theorem State.withFetchWord_resetLine (s : State) (nbits w : Nat) :
    (s.withFetchWord nbits w).resetLine = .released := rfl
@[simp] theorem State.withFetchWord_draws (s : State) (nbits w : Nat) :
    (s.withFetchWord nbits w).draws = s.draws := rfl
@[simp] theorem State.withFetchWord_pending (s : State) (nbits w : Nat) :
    (s.withFetchWord nbits w).pending = .access (tableAccess nbits w) :: s.pending := rfl
@[simp] theorem State.withFetchWord_reads (s : State) (nbits w : Nat) :
    (s.withFetchWord nbits w).reads = s.reads := rfl
@[simp] theorem State.withFetchWord_faultMark (s : State) (nbits w : Nat) :
    (s.withFetchWord nbits w).faultMark = s.faultMark := rfl

/-! ### The sub-records -/

@[simp] theorem Osc.setFreq_ftw (o : Osc) (w : Word) : (o.setFreq w).ftw = w := rfl
@[simp] theorem Osc.setFreq_phase (o : Osc) (w : Word) : (o.setFreq w).phase = o.phase := rfl
@[simp] theorem Env.enterSustain_phase (e : Env) : e.enterSustain.phase = .sustain := rfl
@[simp] theorem Env.enterSustain_level (e : Env) : e.enterSustain.level = e.level := rfl
@[simp] theorem Env.enterSustain_count (e : Env) : e.enterSustain.count = 0 := rfl
@[simp] theorem Env.enterSustain_len (e : Env) : e.enterSustain.len = e.len := rfl
@[simp] theorem Env.enterSustain_target (e : Env) : e.enterSustain.target = e.target := rfl
@[simp] theorem Env.enterSustain_inc (e : Env) : e.enterSustain.inc = e.inc := rfl
@[simp] theorem Env.enterIdle_phase (e : Env) : e.enterIdle.phase = .idle := rfl
@[simp] theorem Env.enterIdle_level (e : Env) : e.enterIdle.level = 0 := rfl
@[simp] theorem Env.enterIdle_count (e : Env) : e.enterIdle.count = 0 := rfl
@[simp] theorem Env.enterIdle_len (e : Env) : e.enterIdle.len = e.len := rfl
@[simp] theorem Env.enterIdle_target (e : Env) : e.enterIdle.target = e.target := rfl
@[simp] theorem Env.enterIdle_inc (e : Env) : e.enterIdle.inc = e.inc := rfl

end Sys2Proof.Machine
end

