-- ==== Sys2Proof/Laws/Envelope.lean ====
section
/-! SUPPORT. The envelope's phase entries and samples, case by case. -/

namespace Sys2Proof.Machine

/-- A zero-length ramp is skipped (R204). -/
theorem rampEnter_zero (ph : Phase) (start target : Level) {n : Word} (h : n = 0) (next : Env → Env) (e : Env) :
    rampEnter ph start target n next e =
      next { e with target := target, len := 0, count := 0, inc := 0, level := target } := by
  simp [rampEnter, h]

/-- A ramp of at least one sample starts at the current level (R204). -/
theorem rampEnter_pos (ph : Phase) (start target : Level) {n : Word} (h : n ≠ 0) (next : Env → Env) (e : Env) :
    rampEnter ph start target n next e = ⟨ph, e.level, 0, n, target, rampInc start target n⟩ := by
  simp only [rampEnter, if_neg h]

/-- Outside the ramps a sample changes nothing (R208). -/
theorem Env.step_hold (st : Settings) {e : Env} (h : e.phase = .idle ∨ e.phase = .sustain) : (e.step st).1 = e := by
  rcases h with h | h <;> simp [Env.step, h]

/-- In a ramp phase a sample is a ramp sample (R208). -/
theorem Env.step_ramp (st : Settings) {e : Env} (h : e.phase ≠ .idle) (h' : e.phase ≠ .sustain) :
    e.step st = e.rampStep st := by
  cases hp : e.phase <;> simp_all [Env.step]

/-- The last sample of a ramp returns the target and enters the next phase (R208). -/
theorem Env.rampStep_last (st : Settings) {e : Env} (h : e.count + 1 = e.len) :
    e.rampStep st = (({ e with count := e.count + 1, level := e.target } : Env).enterNext st, e.target) := by
  simp only [Env.rampStep, if_pos h]

/-- Any other sample of a ramp adds the increment (R208). -/
theorem Env.rampStep_inner (st : Settings) {e : Env} (h : e.count + 1 ≠ e.len) :
    e.rampStep st =
      ({ e with count := e.count + 1, level := BitVec.ofInt 25 ((e.level.toNat : Int) + e.inc.toInt) },
        BitVec.ofInt 25 ((e.level.toNat : Int) + e.inc.toInt)) := by
  simp only [Env.rampStep, if_neg h]

end Sys2Proof.Machine
end

