-- ==== Sys2Proof/Laws/Ops.lean ====
section
/-! SUPPORT. What each shared operation can do, said once. -/

namespace Sys2Proof.Machine

/-! ### Errors -/

/-- The first error is recorded in full. -/
theorem ErrState.record_first {e : ErrState} (h : e.err = false) (x : Err) (a : Offset) (d : Word) :
    e.record x a d = ⟨true, e.multi, some x, a, d⟩ := by
  simp [ErrState.record, h]

/-- A later error sets MULTI and keeps the rest. -/
theorem ErrState.record_later {e : ErrState} (h : e.err = true) (x : Err) (a : Offset) (d : Word) :
    e.record x a d = { e with multi := true } := by
  simp [ErrState.record, h]

/-- After an error is recorded, ERR is set. -/
@[simp] theorem ErrState.record_err (e : ErrState) (x : Err) (a : Offset) (d : Word) : (e.record x a d).err = true := by
  cases h : e.err <;> simp [ErrState.record, h]

/-- MULTI is set exactly when it or ERR was set before. -/
theorem ErrState.record_multi (e : ErrState) (x : Err) (a : Offset) (d : Word) :
    (e.record x a d).multi = (e.multi || e.err) := by
  cases h : e.err <;> simp [ErrState.record, h]

/-- A setter's clamp record: nothing up to the limit, `E_CLAMP` above it. -/
theorem noteClamp_cases (limit : Nat) (r : Reg) (d : Word) (s : State) :
    (d.toNat ≤ limit ∧ noteClamp limit r d s = s) ∨
    (limit < d.toNat ∧ noteClamp limit r d s = s.raise .clamp r.offset d) := by
  by_cases h : limit < d.toNat
  · exact .inr ⟨h, by simp [noteClamp, exceeds, h]⟩
  · exact .inl ⟨Nat.le_of_not_lt h, by simp [noteClamp, exceeds, h]⟩

/-! ### Reset -/

/-- Releasing reset touches the reset line only. -/
theorem State.releaseReset_cases (s : State) :
    (s.resetLine = .asserted ∧ s.releaseReset = { s with resetLine := .released }) ∨
    (s.resetLine ≠ .asserted ∧ s.releaseReset = s) := by
  cases h : s.resetLine <;> simp [State.releaseReset, h]

/-- A free sample is a legal sample, whatever its value. -/
theorem freeSample_range (n : Nat) : -ampMax ≤ (freeSample n).toInt ∧ (freeSample n).toInt ≤ ampMax := by
  have h := (Config.freeSample n).isLt
  rw [freeSample, BitVec.toInt_ofInt_eq_self (by decide)] <;> simp only [ampMax] <;> omega

/-- Drawing `b` samples gives `b` samples. -/
@[simp] theorem drawSamples_length (b k : Nat) : (drawSamples b k).length = b := by
  simp [drawSamples]

/-- Drawn samples are legal samples. -/
theorem drawSamples_range {b k : Nat} {x : Sample} (h : x ∈ drawSamples b k) :
    -ampMax ≤ x.toInt ∧ x.toInt ≤ ampMax := by
  obtain ⟨j, -, rfl⟩ := List.mem_map.mp h
  exact freeSample_range _

/-- OUT keeps its size when power is lost. -/
@[simp] theorem lostOut_length (b k : Nat) : (lostOut b k).length = b := by
  simp [lostOut]

/-- What a loss of power leaves depends on nothing the block held. -/
theorem State.losePower_eq {s s' : State} (hc : s.cfg = s'.cfg) (hd : s.draws = s'.draws)
    (hp : s.pending = s'.pending) (hr : s.reads = s'.reads) (hm : s.faultMark = s'.faultMark) :
    s.losePower = s'.losePower := by
  simp only [State.losePower, hc, hd, hp, hr, hm]

/-! ### The block of samples -/

/-- The voice fills as many entries as it is asked for. -/
@[simp] theorem voiceStep_length (st : Settings) (n : Nat) (o : Osc) (e : Env) :
    (voiceStep st n o e).2.2.length = n := by
  induction n generalizing o e with
  | zero => rfl
  | succ n ih => simp [voiceStep, Osc.tick, ih]

/-- The modulator changes a block in place. -/
@[simp] theorem modStep_length (d : Nat) (xs : List Sample) (o : Osc) : (modStep d xs o).2.length = xs.length := by
  induction xs generalizing o with
  | nil => rfl
  | cons x xs ih => simp [modStep, modTick, Osc.tick, ih]

end Sys2Proof.Machine
end

