-- ==== Sys2Proof/Laws/PerInstr.lean ====
section
/-! SUPPORT. Facts about every operation as syntax, one lemma a constructor. -/

namespace Sys2Proof.Laws

/-- The encoder's word lies in the operation's row of the operation map (R107). -/
def EncodesInRow.Statement (i : Instr) : Prop := WellFormed i → encode i &&& i.rowMask = i.rowMatch

/-- A mask on an operation word is a mask on the key and a mask on the data. -/
theorem opWord_and (k m : Key) (d n : Word) : opWord k d &&& (m ++ n) = (k &&& m) ++ (d &&& n) :=
  BitVec.and_append

/-- An operation word lies in a row that fixes the key and leaves the data free. -/
theorem opWord_in_key_row (k : Key) (d : Word) {m r : OpWord} (hm : m = 0x1FFF#13 ++ 0#32) (hr : r = k ++ 0#32) :
    opWord k d &&& m = r := by
  rw [hm, hr, opWord_and, show (0x1FFF#13 : Key) = BitVec.allOnes 13 from rfl, BitVec.and_allOnes, BitVec.and_zero]

/-- An operation word lies in the row of a window. -/
theorem opWord_in_window_row (k n : Key) (d : Word) {m r : OpWord} (q : Key) (hk : k &&& n = q)
    (hm : m = n ++ 0#32) (hr : r = q ++ 0#32) : opWord k d &&& m = r := by
  rw [hm, hr, opWord_and, hk, BitVec.and_zero]

/-- Every FTAB key lies in its row, whichever the index. -/
theorem ftab_key_in_row (w : BitVec 1) (i : BitVec 7) :
    (w ++ (Reg.ftab i).offset : Key) &&& 0x1E03#13 = w ++ 0x400#12 := by
  revert w i; decide

/-- Every OUT key lies in its row, whichever the index. -/
theorem out_key_in_row (w : BitVec 1) (j : BitVec 8) :
    (w ++ (Reg.out j).offset : Key) &&& 0x1C03#13 = w ++ 0x800#12 := by
  revert w j; decide

/-- A legal note has its top bit clear. -/
theorem legal_note_top_bit : ∀ note : BitVec 8, note.toNat < 128 → note &&& 0x80#8 = 0#8 := by decide

/-- A command word with a legal note lies in the row of its opcode. -/
theorem cmdWord_in_row (op : BitVec 4) (note : BitVec 8) (h : note.toNat < 128) :
    opWord (writeKey .cmd) (cmdWord op note) &&& 0x1FFFFFFFFF80#45 = writeKey .cmd ++ (op ++ 0#20 ++ 0#8 : Word) := by
  rw [show (0x1FFFFFFFFF80#45 : OpWord) = 0x1FFF#13 ++ ((0xF#4 ++ 0xFFFFF#20) ++ 0x80#8 : Word) from rfl, opWord_and,
    cmdWord, BitVec.and_append, BitVec.and_append, legal_note_top_bit note h,
    show (0xF#4 : BitVec 4) = BitVec.allOnes 4 from rfl, BitVec.and_allOnes, BitVec.zero_and]
  rfl

theorem EncodesInRow.nop : EncodesInRow.Statement .nop := fun _ => rfl

theorem EncodesInRow.press (note : BitVec 8) : EncodesInRow.Statement (.press note) := by
  intro h
  exact cmdWord_in_row _ _ (by simpa [WellFormed, Instr.wellFormed] using h)

theorem EncodesInRow.release (note : BitVec 8) : EncodesInRow.Statement (.release note) := by
  intro h
  exact cmdWord_in_row _ _ (by simpa [WellFormed, Instr.wellFormed] using h)

theorem EncodesInRow.step : EncodesInRow.Statement .step := fun _ => rfl

theorem EncodesInRow.wrStatus (d : Word) : EncodesInRow.Statement (.wrStatus d) := fun _ =>
  opWord_in_key_row (writeKey .status) d rfl rfl

theorem EncodesInRow.wrAttack (d : Word) : EncodesInRow.Statement (.wrAttack d) := fun _ =>
  opWord_in_key_row (writeKey .attack) d rfl rfl

theorem EncodesInRow.wrDecay (d : Word) : EncodesInRow.Statement (.wrDecay d) := fun _ =>
  opWord_in_key_row (writeKey .decay) d rfl rfl

theorem EncodesInRow.wrSustain (d : Word) : EncodesInRow.Statement (.wrSustain d) := fun _ =>
  opWord_in_key_row (writeKey .sustain) d rfl rfl

theorem EncodesInRow.wrRelease (d : Word) : EncodesInRow.Statement (.wrRelease d) := fun _ =>
  opWord_in_key_row (writeKey .release) d rfl rfl

theorem EncodesInRow.wrModfreq (d : Word) : EncodesInRow.Statement (.wrModfreq d) := fun _ =>
  opWord_in_key_row (writeKey .modfreq) d rfl rfl

theorem EncodesInRow.wrModdepth (d : Word) : EncodesInRow.Statement (.wrModdepth d) := fun _ =>
  opWord_in_key_row (writeKey .moddepth) d rfl rfl

theorem EncodesInRow.rdCmd : EncodesInRow.Statement .rdCmd := fun _ =>
  opWord_in_key_row _ _ rfl rfl

theorem EncodesInRow.rdStatus : EncodesInRow.Statement .rdStatus := fun _ =>
  opWord_in_key_row _ _ rfl rfl

theorem EncodesInRow.rdErraddr : EncodesInRow.Statement .rdErraddr := fun _ =>
  opWord_in_key_row _ _ rfl rfl

theorem EncodesInRow.rdErrdata : EncodesInRow.Statement .rdErrdata := fun _ =>
  opWord_in_key_row _ _ rfl rfl

theorem EncodesInRow.rdConfig : EncodesInRow.Statement .rdConfig := fun _ =>
  opWord_in_key_row _ _ rfl rfl

theorem EncodesInRow.rdCurnote : EncodesInRow.Statement .rdCurnote := fun _ =>
  opWord_in_key_row _ _ rfl rfl

theorem EncodesInRow.rdAttack : EncodesInRow.Statement .rdAttack := fun _ =>
  opWord_in_key_row _ _ rfl rfl

theorem EncodesInRow.rdDecay : EncodesInRow.Statement .rdDecay := fun _ =>
  opWord_in_key_row _ _ rfl rfl

theorem EncodesInRow.rdSustain : EncodesInRow.Statement .rdSustain := fun _ =>
  opWord_in_key_row _ _ rfl rfl

theorem EncodesInRow.rdRelease : EncodesInRow.Statement .rdRelease := fun _ =>
  opWord_in_key_row _ _ rfl rfl

theorem EncodesInRow.rdModfreq : EncodesInRow.Statement .rdModfreq := fun _ =>
  opWord_in_key_row _ _ rfl rfl

theorem EncodesInRow.rdModdepth : EncodesInRow.Statement .rdModdepth := fun _ =>
  opWord_in_key_row _ _ rfl rfl

theorem EncodesInRow.rdEnvPhase : EncodesInRow.Statement .rdEnvPhase := fun _ =>
  opWord_in_key_row _ _ rfl rfl

theorem EncodesInRow.rdEnvLevel : EncodesInRow.Statement .rdEnvLevel := fun _ =>
  opWord_in_key_row _ _ rfl rfl

theorem EncodesInRow.rdEnvCount : EncodesInRow.Statement .rdEnvCount := fun _ =>
  opWord_in_key_row _ _ rfl rfl

theorem EncodesInRow.rdEnvLen : EncodesInRow.Statement .rdEnvLen := fun _ =>
  opWord_in_key_row _ _ rfl rfl

theorem EncodesInRow.rdEnvTarget : EncodesInRow.Statement .rdEnvTarget := fun _ =>
  opWord_in_key_row _ _ rfl rfl

theorem EncodesInRow.rdEnvInc : EncodesInRow.Statement .rdEnvInc := fun _ =>
  opWord_in_key_row _ _ rfl rfl

theorem EncodesInRow.rdVoiceFtw : EncodesInRow.Statement .rdVoiceFtw := fun _ =>
  opWord_in_key_row _ _ rfl rfl

theorem EncodesInRow.rdVoicePhase : EncodesInRow.Statement .rdVoicePhase := fun _ =>
  opWord_in_key_row _ _ rfl rfl

theorem EncodesInRow.rdModPhase : EncodesInRow.Statement .rdModPhase := fun _ =>
  opWord_in_key_row _ _ rfl rfl

theorem EncodesInRow.rdFtab (i : BitVec 7) : EncodesInRow.Statement (.rdFtab i) := fun _ =>
  opWord_in_window_row _ _ _ _ (ftab_key_in_row 0#1 i) rfl rfl

theorem EncodesInRow.rdOut (j : BitVec 8) : EncodesInRow.Statement (.rdOut j) := fun _ =>
  opWord_in_window_row _ _ _ _ (out_key_in_row 0#1 j) rfl rfl

theorem EncodesInRow.wrRoErraddr (d : Word) : EncodesInRow.Statement (.wrRoErraddr d) := fun _ =>
  opWord_in_key_row (writeKey .erraddr) d rfl rfl

theorem EncodesInRow.wrRoErrdata (d : Word) : EncodesInRow.Statement (.wrRoErrdata d) := fun _ =>
  opWord_in_key_row (writeKey .errdata) d rfl rfl

theorem EncodesInRow.wrRoConfig (d : Word) : EncodesInRow.Statement (.wrRoConfig d) := fun _ =>
  opWord_in_key_row (writeKey .config) d rfl rfl

theorem EncodesInRow.wrRoCurnote (d : Word) : EncodesInRow.Statement (.wrRoCurnote d) := fun _ =>
  opWord_in_key_row (writeKey .curnote) d rfl rfl

theorem EncodesInRow.wrRoEnvPhase (d : Word) : EncodesInRow.Statement (.wrRoEnvPhase d) := fun _ =>
  opWord_in_key_row (writeKey .envPhase) d rfl rfl

theorem EncodesInRow.wrRoEnvLevel (d : Word) : EncodesInRow.Statement (.wrRoEnvLevel d) := fun _ =>
  opWord_in_key_row (writeKey .envLevel) d rfl rfl

theorem EncodesInRow.wrRoEnvCount (d : Word) : EncodesInRow.Statement (.wrRoEnvCount d) := fun _ =>
  opWord_in_key_row (writeKey .envCount) d rfl rfl

theorem EncodesInRow.wrRoEnvLen (d : Word) : EncodesInRow.Statement (.wrRoEnvLen d) := fun _ =>
  opWord_in_key_row (writeKey .envLen) d rfl rfl

theorem EncodesInRow.wrRoEnvTarget (d : Word) : EncodesInRow.Statement (.wrRoEnvTarget d) := fun _ =>
  opWord_in_key_row (writeKey .envTarget) d rfl rfl

theorem EncodesInRow.wrRoEnvInc (d : Word) : EncodesInRow.Statement (.wrRoEnvInc d) := fun _ =>
  opWord_in_key_row (writeKey .envInc) d rfl rfl

theorem EncodesInRow.wrRoVoiceFtw (d : Word) : EncodesInRow.Statement (.wrRoVoiceFtw d) := fun _ =>
  opWord_in_key_row (writeKey .voiceFtw) d rfl rfl

theorem EncodesInRow.wrRoVoicePhase (d : Word) : EncodesInRow.Statement (.wrRoVoicePhase d) := fun _ =>
  opWord_in_key_row (writeKey .voicePhase) d rfl rfl

theorem EncodesInRow.wrRoModPhase (d : Word) : EncodesInRow.Statement (.wrRoModPhase d) := fun _ =>
  opWord_in_key_row (writeKey .modPhase) d rfl rfl

theorem EncodesInRow.wrRoFtab (i : BitVec 7) (d : Word) : EncodesInRow.Statement (.wrRoFtab i d) := fun _ =>
  opWord_in_window_row _ _ _ _ (ftab_key_in_row 1#1 i) rfl rfl

theorem EncodesInRow.wrRoOut (j : BitVec 8) (d : Word) : EncodesInRow.Statement (.wrRoOut j d) := fun _ =>
  opWord_in_window_row _ _ _ _ (out_key_in_row 1#1 j) rfl rfl

end Sys2Proof.Laws
end

