-- ==== Sys2Proof/Laws/Step.lean ====
section
/-! SUPPORT. What a step can do, said once: the inversion lemmas of the step, of one event and of one access. -/

namespace Sys2Proof.Machine

/-- A step that goes on is one of an idle block, which stays as it is, or takes the next event. -/
theorem step_next_cases {s t : State} (h : step s = .next t) :
    s.cfg.Legal ∧
      ((s.pending = [] ∧ t = s) ∨
       ∃ ev rest, s.pending = ev :: rest ∧ performEvent ev { s with pending := rest } = .next t) := by
  unfold step performNext at h
  split at h
  · rename_i hl
    refine ⟨hl, ?_⟩
    split at h
    · exact .inl ⟨‹_›, by injection h with h; exact h.symm⟩
    · exact .inr ⟨_, _, ‹_›, h⟩
  · cases h

/-- An access goes on only where the block can begin it, and then as it was to go on. -/
theorem beginAccess_next_cases {a : Access} {s t : State} {go : Host.Outcome State Fault Refusal}
    (h : beginAccess a s go = .next t) : s.resetLine = .released ∧ a.size = 4 ∧ go = .next t := by
  unfold beginAccess at h
  split at h
  · split at h
    · exact ⟨‹_›, ‹_›, h⟩
    · cases h
  · cases h
  · cases h

/-- Where the block can begin an access, the access goes on. -/
theorem beginAccess_of_released {a : Access} {s : State} (hr : s.resetLine = .released) (hs : a.size = 4)
    (go : Host.Outcome State Fault Refusal) : beginAccess a s go = go := by
  simp only [beginAccess, hr, if_pos hs]

/-- An event that goes on is an access the block can begin, or an event of the reset input or the power. -/
theorem performEvent_next_cases {ev : Event} {s t : State} (h : performEvent ev s = .next t) :
    (∃ a, ev = .access a ∧ s.resetLine = .released ∧ a.size = 4 ∧ performAccess a s = .next t) ∨
    ((ev = .assertReset ∨ ∃ a, ev = .cutShort a ∧ s.resetLine = .released ∧ a.size = 4) ∧ t = s.hardwareReset) ∨
    (ev = .releaseReset ∧ t = s.releaseReset) ∨
    (ev = .powerLoss ∧ t = s.losePower) := by
  cases ev with
  | access a =>
    obtain ⟨hr, hs, h⟩ := beginAccess_next_cases h
    exact .inl ⟨a, rfl, hr, hs, h⟩
  | assertReset => cases h; exact .inr (.inl ⟨.inl rfl, rfl⟩)
  | cutShort a =>
    obtain ⟨hr, hs, h⟩ := beginAccess_next_cases h
    cases h
    exact .inr (.inl ⟨.inr ⟨a, rfl, hr, hs⟩, rfl⟩)
  | releaseReset => cases h; exact .inr (.inr (.inl ⟨rfl, rfl⟩))
  | powerLoss => cases h; exact .inr (.inr (.inr ⟨rfl, rfl⟩))

/-- A transaction that goes on either runs the decoded operation or is rejected. -/
theorem performAccess_next_cases {a : Access} {s t : State} (h : performAccess a s = .next t) :
    (∃ i, decode a.key a.data = .ok i ∧ exec i s = .next t) ∨
    ∃ x, decode a.key a.data = .error x ∧ t = rejectAccess x a s := by
  unfold performAccess at h
  split at h
  · exact .inl ⟨_, ‹_›, h⟩
  · exact .inr ⟨_, ‹_›, by injection h with h; exact h.symm⟩

/-- A rejected access records its error with its offset, and the write data or 0, and answers 0 to a read (R363). -/
theorem rejectAccess_cases (x : DecodeError) (a : Access) (s : State) :
    (keyWrites a.key = true ∧ rejectAccess x a s = s.raise (.ofDecode x) (keyOffset a.key) a.data) ∨
    (keyWrites a.key = false ∧ rejectAccess x a s = (s.raise (.ofDecode x) (keyOffset a.key) 0).answer 0) := by
  cases h : keyWrites a.key <;> simp [rejectAccess, rejectWrite, rejectRead, h]

end Sys2Proof.Machine
end

