-- ==== Sys2Proof/Laws/Runs.lean ====
section
/-! SUPPORT. Lemmas about the terms of Safety.lean: a transaction of a running block, an envelope after some samples. -/

namespace Sys2Proof.Machine

/-- The spec's division toward zero is Lean's. -/
theorem truncDiv_eq_tdiv (a : Int) (b : Nat) : truncDiv a b = a.tdiv b := by
  unfold truncDiv
  rcases Int.natAbs_eq a with h | h
  · rcases Nat.eq_zero_or_pos a.natAbs with h0 | h0
    · have : a = 0 := by omega
      subst this; simp
    · rw [Int.sign_eq_one_of_pos (by omega), one_mul]
      conv_rhs => rw [h]
      exact (Int.ofNat_tdiv _ _).symm ▸ rfl
  · rcases Nat.eq_zero_or_pos a.natAbs with h0 | h0
    · have : a = 0 := by omega
      subst this; simp
    · rw [Int.sign_eq_neg_one_of_neg (by omega)]
      conv_rhs => rw [h, Int.neg_tdiv]
      rw [← Int.ofNat_tdiv]; simp

/-- In a ramp phase a sample is a ramp sample. -/
theorem Env.step_of_isRamp (st : Settings) {e : Env} (h : e.phase.isRamp = true) : e.step st = e.rampStep st := by
  apply Env.step_ramp <;> intro hp <;> rw [hp] at h <;> cases h

/-- One more sample at the end. -/
theorem Env.after_succ (st : Settings) (n : Nat) (e : Env) : e.after st (n + 1) = ((e.after st n).step st).1 := by
  induction n generalizing e with
  | zero => rfl
  | succ n ih => rw [Env.after, ih]; rfl

/-- `m + n` samples are `m` samples and then `n`. -/
theorem Env.after_add (st : Settings) (m n : Nat) (e : Env) :
    e.after st (m + n) = (e.after st m).after st n := by
  induction n with
  | zero => rfl
  | succ n ih => rw [← Nat.add_assoc, Env.after_succ, ih, Env.after_succ]

/-- What a running block does with a word access, whatever it decodes to. -/
theorem step_of_asks {s : State} {a : Access} {rest : List Event} (h : s.Asks a rest) (hs : a.size = 4) :
    step s =
      match decode a.key a.data with
      | .ok i => exec i { s with pending := rest }
      | .error x => .next (rejectAccess x a { s with pending := rest }) := by
  obtain ⟨hl, hr, hp⟩ := h
  cases s
  subst hr hp
  cases hd : decode a.key a.data <;>
    simp only [step, performNext, if_pos hl, performEvent, beginAccess, performAccess, if_pos hs, hd]

end Sys2Proof.Machine
end

