-- ==== Sys2Proof/Tests/Slice0.lean ====
section
/-! SUPPORT. Tests: the WellFormed smoke; every constructor's decoding from a word written out by hand; the spec's vectors
(95_test_vectors, named in each comment), one step each; and a witness for the hypotheses of every statement that has any. -/

namespace Sys2Proof.Tests

open Sys2Proof.Machine

/-! ### Helpers -/

/-- A small block in Sustain (`B = 2`, `FS = 48000`, note 60 pressed): the state after vector E1's first part. -/
def small : State where
  cfg := ⟨2, 48000⟩
  settings := ⟨4, 3, 0x800000, 5, 0⟩
  curNote := 60
  env := ⟨.sustain, 8388608, 0, 3, 8388608, BitVec.ofInt 26 (-2796202)⟩
  voice := ⟨0x016534C3, 0⟩
  modulator := ⟨0x10000000, 0⟩
  out := [1, 0xFFFF]
  error := ErrState.clear
  resetLine := .released
  draws := 2
  pending := []
  reads := []
  faultMark := false

/-- `small` as after reset, so without a note and with the reset settings, its OUT at a value of its own. -/
def fresh : State :=
  { small with
    settings := Settings.reset, curNote := 0, env := Env.reset, voice := Osc.reset, modulator := Osc.reset }

/-- `small` with one error recorded. -/
def failed : State :=
  { small with error := ⟨true, false, some .badOpcode, 0, 0x50000000⟩, faultMark := true }

/-- `s` with one access to take. -/
def asking (s : State) (k : Key) (d : Word) : State := { s with pending := [.access ⟨4, k, d⟩] }

/-- What an outcome shows, if it is a next state. -/
def seen {α : Type} (f : State → α) : Host.Outcome State Fault Refusal → Option α
  | .next s => some (f s)
  | .fault _ => none
  | .refused _ => none

/-- STATUS, ERRADDR, ERRDATA and the values read, as numbers. -/
structure ErrorView where
  status : Nat
  addr : Nat
  data : Nat
  reads : List Nat
  deriving DecidableEq, Repr

/-- The error registers of a state. -/
def errorsOf (s : State) : ErrorView :=
  ⟨s.error.status.toNat, s.error.addr.toNat, s.error.data.toNat, s.reads.map BitVec.toNat⟩

/-- `PH`, `LV`, `CNT`, `LEN`, `T`, `INC` as the vectors give them. -/
structure EnvView where
  phase : Nat
  level : Nat
  count : Nat
  len : Nat
  target : Nat
  inc : Int
  deriving DecidableEq, Repr

/-- The envelope registers. -/
def envOf (e : Env) : EnvView :=
  ⟨e.phase.code.toNat, e.level.toNat, e.count.toNat, e.len.toNat, e.target.toNat, e.inc.toInt⟩

/-- Whether a transaction decodes to `i`. -/
def decodes (k : Key) (d : Word) (i : Instr) : Bool :=
  match decode k d with
  | .ok j => decide (j = i)
  | .error _ => false

/-- Whether a transaction is rejected for `x`. -/
def rejects (k : Key) (d : Word) (x : DecodeError) : Bool :=
  match decode k d with
  | .ok _ => false
  | .error y => decide (x = y)

/-- Settings of a vector: `ATTACK`, `DECAY`, `SUSTAIN`, `RELEASE`. -/
def adsr (a d : Word) (s : Level) (r : Word) : Settings := ⟨a, d, s, r, 0⟩

/-! ### WellFormed smoke -/

/-- A PRESS of note 128 is ill-formed, of note 127 well-formed (R103). -/
theorem test_wellformed_press : ¬ WellFormed (.press 128) ∧ WellFormed (.press 127) := by decide

/-- A RELEASE of note 255 is ill-formed, of note 0 well-formed (R103). -/
theorem test_wellformed_release : ¬ WellFormed (.release 255) ∧ WellFormed (.release 0) := by decide

/-! ### Decoding: every constructor, words written out from R100, R101 and the operation map of R107 -/

/-- The four commands. -/
theorem test_decode_commands :
    decodes 0b1000000000000 0b00000000000000000000000000000000 .nop = true ∧
    decodes 0b1000000000000 0b00010000000000000000000001000101 (.press 69) = true ∧
    decodes 0b1000000000000 0b00100000000000000000000000111100 (.release 60) = true ∧
    decodes 0b1000000000000 0b00110000000000000000000000000000 .step = true := by decide

/-- The writes to STATUS and the settings. -/
theorem test_decode_setters :
    decodes 0b1000000000100 1 (.wrStatus 1) = true ∧ decodes 0b1000000100000 7 (.wrAttack 7) = true ∧
    decodes 0b1000000100100 7 (.wrDecay 7) = true ∧ decodes 0b1000000101000 7 (.wrSustain 7) = true ∧
    decodes 0b1000000101100 7 (.wrRelease 7) = true ∧ decodes 0b1000000110000 7 (.wrModfreq 7) = true ∧
    decodes 0b1000000110100 7 (.wrModdepth 7) = true := by decide

/-- The reads of CMD to MODDEPTH; a read carries no data, so whatever stands there is not looked at. -/
theorem test_decode_reads_low :
    decodes 0b0000000000000 0x30000000 .rdCmd = true ∧ decodes 0b0000000000100 0 .rdStatus = true ∧
    decodes 0b0000000001000 0 .rdErraddr = true ∧ decodes 0b0000000001100 0 .rdErrdata = true ∧
    decodes 0b0000000010000 0 .rdConfig = true ∧ decodes 0b0000000010100 0 .rdCurnote = true ∧
    decodes 0b0000000100000 0 .rdAttack = true ∧ decodes 0b0000000100100 0 .rdDecay = true ∧
    decodes 0b0000000101000 0 .rdSustain = true ∧ decodes 0b0000000101100 0 .rdRelease = true ∧
    decodes 0b0000000110000 0 .rdModfreq = true ∧ decodes 0b0000000110100 0 .rdModdepth = true := by decide

/-- The reads of ENV_PHASE to MOD_PHASE. -/
theorem test_decode_reads_high :
    decodes 0b0000001000000 0 .rdEnvPhase = true ∧ decodes 0b0000001000100 0 .rdEnvLevel = true ∧
    decodes 0b0000001001000 0 .rdEnvCount = true ∧ decodes 0b0000001001100 0 .rdEnvLen = true ∧
    decodes 0b0000001010000 0 .rdEnvTarget = true ∧ decodes 0b0000001010100 0 .rdEnvInc = true ∧
    decodes 0b0000001011000 0 .rdVoiceFtw = true ∧ decodes 0b0000001011100 0 .rdVoicePhase = true ∧
    decodes 0b0000001100000 0 .rdModPhase = true := by decide

/-- The two windows, read and written: FTAB[69] at 0x514, OUT[15] at 0x83C, the last entries of both. -/
theorem test_decode_windows :
    decodes 0b0010100010100 0 (.rdFtab 69) = true ∧ decodes 0b0100000111100 0 (.rdOut 15) = true ∧
    decodes 0b1010111111100 7 (.wrRoFtab 127 7) = true ∧ decodes 0b1101111111100 7 (.wrRoOut 255 7) = true ∧
    decodes 0b0010000000000 0 (.rdFtab 0) = true ∧ decodes 0b0100000000000 0 (.rdOut 0) = true := by decide

/-- The writes to read-only registers. -/
theorem test_decode_read_only :
    decodes 0b1000000001000 5 (.wrRoErraddr 5) = true ∧ decodes 0b1000000001100 5 (.wrRoErrdata 5) = true ∧
    decodes 0b1000000010000 5 (.wrRoConfig 5) = true ∧ decodes 0b1000000010100 5 (.wrRoCurnote 5) = true ∧
    decodes 0b1000001000000 5 (.wrRoEnvPhase 5) = true ∧ decodes 0b1000001000100 5 (.wrRoEnvLevel 5) = true ∧
    decodes 0b1000001001000 5 (.wrRoEnvCount 5) = true ∧ decodes 0b1000001001100 5 (.wrRoEnvLen 5) = true ∧
    decodes 0b1000001010000 5 (.wrRoEnvTarget 5) = true ∧ decodes 0b1000001010100 5 (.wrRoEnvInc 5) = true ∧
    decodes 0b1000001011000 5 (.wrRoVoiceFtw 5) = true ∧ decodes 0b1000001011100 5 (.wrRoVoicePhase 5) = true ∧
    decodes 0b1000001100000 5 (.wrRoModPhase 5) = true := by decide

/-- X2, X4, X5, X13, X16, X18, X20, C10: words that name no operation. -/
theorem test_decode_rejects :
    rejects 0x1002 0x10000045 .misaligned = true ∧ rejects 0x1601 1 .misaligned = true ∧
    rejects 0x1C00 1 .badAddr = true ∧ rejects 0x1000 0x50000000 .badOpcode = true ∧
    rejects 0x1000 0x10000180 .reservedBits = true ∧ rejects 0x1000 0x10000080 .noteRange = true ∧
    rejects 0x1000 0x20000080 .noteRange = true ∧ rejects 0x1000 0x30000001 .reservedBits = true := by decide

/-- The table's numbering: D in bits 31 to 0, the key above (R107), and a row's word runs right after reset. -/
theorem test_table_word :
    decodeTableWord 48 0x100010000045 = some (.press 69) ∧ decodeTableWord 48 0x051400000000 = some (.rdFtab 69) ∧
    decodeTableWord 48 0x100030000001 = none ∧
    seen (fun s => s.curNote) (step (State.reset.withFetchWord 48 0x100010000045)) = some 69 := by decide +kernel

/-! ### Commands -/

/-- C1. -/
theorem test_nop : seen id (step (asking small 0x1000 0)) = some small := by decide

/-- C2: from the reset settings. -/
theorem test_press_reset :
    seen (fun s => (s.voice, s.curNote, envOf s.env, s.error)) (step (asking fresh 0x1000 0x10000045)) =
      some (⟨0x0258BF26, 0⟩, 69, ⟨3, 16777216, 0, 0, 16777216, 0⟩, ErrState.clear) := by decide +kernel

/-- C3: `ATTACK = 100`, note 1. -/
theorem test_press_attack :
    seen (fun s => (s.voice.ftw.toNat, s.curNote, envOf s.env))
        (exec (.press 1) { fresh with settings := adsr 100 0 levelOne 0 }) =
      some (775059, 1, ⟨1, 0, 0, 100, 16777216, 167772⟩) := by decide +kernel

/-- E1: the release of the current note in Sustain. -/
theorem test_release_current :
    seen (fun s => (envOf s.env, s.curNote)) (exec (.release 60) small) =
      some (⟨4, 8388608, 0, 5, 0, -1677721⟩, 60) := by decide

/-- C6 and C5: another note, and the current one in Idle: nothing changes. -/
theorem test_release_ignored :
    seen id (exec (.release 61) small) = some small ∧ seen id (exec (.release 0) fresh) = some fresh := by decide

/-- P1, its first two samples and half of its phase advance to sample 4. -/
theorem test_step_p1 :
    seen (fun s => (s.out.map BitVec.toInt, s.voice.phase.toNat))
        (exec .step { fresh with voice := ⟨39370534, 0⟩, env := ⟨.sustain, levelOne, 0, 0, levelOne, 0⟩ }) =
      some ([32767, 32717], 78741068) := by decide

/-- P3, its first two samples: full depth, `MODFREQ = 0x10000000`. -/
theorem test_step_p3 :
    seen (fun s => (s.out.map BitVec.toInt, s.modulator))
        (exec .step { fresh with
          settings := ⟨0, 0, levelOne, 0, 0x8000⟩, modulator := ⟨0x10000000, 0⟩
          voice := ⟨39370534, 0⟩, env := ⟨.sustain, levelOne, 0, 0, levelOne, 0⟩ }) =
      some ([32767, 31471], ⟨0x10000000, 0x20000000⟩) := by decide

/-! ### Setters and STATUS -/

/-- W1 and W11: durations take every value. -/
theorem test_durations :
    seen (fun s => (s.settings, s.error)) (exec (.wrAttack 0xFFFFFFFF) small) =
      some (⟨0xFFFFFFFF, 3, 0x800000, 5, 0⟩, ErrState.clear) ∧
    seen (fun s => s.settings) (exec (.wrDecay 7) small) = some ⟨4, 7, 0x800000, 5, 0⟩ ∧
    seen (fun s => s.settings) (exec (.wrRelease 9) small) = some ⟨4, 3, 0x800000, 9, 0⟩ := by decide

/-- W2, W3 and W4. -/
theorem test_sustain :
    seen (fun s => (s.settings.sustain, errorsOf s)) (exec (.wrSustain 0x1000000) small) =
      some (0x1000000, ⟨0, 0, 0, []⟩) ∧
    seen (fun s => (s.settings.sustain, errorsOf s)) (exec (.wrSustain 0x1000001) small) =
      some (0x1000000, ⟨0x71, 0x028, 0x1000001, []⟩) ∧
    seen (fun s => s.settings.sustain) (exec (.wrSustain 0x2000000) small) = some 0x1000000 := by decide

/-- W5, W6 and W7, from a modulator phase that stays. -/
theorem test_modfreq :
    seen (fun s => (s.modulator, errorsOf s)) (exec (.wrModfreq 0x7FFFFFFF) { small with modulator := ⟨1, 9⟩ }) =
      some (⟨0x7FFFFFFF, 9⟩, ⟨0, 0, 0, []⟩) ∧
    seen (fun s => (s.modulator, errorsOf s)) (exec (.wrModfreq 0x80000000) { small with modulator := ⟨1, 9⟩ }) =
      some (⟨0x7FFFFFFF, 9⟩, ⟨0x71, 0x030, 0x80000000, []⟩) ∧
    seen (fun s => s.modulator) (exec (.wrModfreq 0xFFFFFFFF) small) = some ⟨0x7FFFFFFF, 0⟩ := by decide

/-- W8, W9 and W10. -/
theorem test_moddepth :
    seen (fun s => (s.settings.modDepth, errorsOf s)) (exec (.wrModdepth 0x8000) small) =
      some (0x8000, ⟨0, 0, 0, []⟩) ∧
    seen (fun s => (s.settings.modDepth, errorsOf s)) (exec (.wrModdepth 0x8001) small) =
      some (0x8000, ⟨0x71, 0x034, 0x8001, []⟩) ∧
    seen (fun s => s.settings.modDepth) (exec (.wrModdepth 0xFFFFFFFF) small) = some 0x8000 := by decide

/-- X22 to X25: the second error sets MULTI, and STATUS clears on bit 0 only. -/
theorem test_status :
    seen errorsOf (exec (.wrRoCurnote 5) failed) = some ⟨0x43, 0, 0x50000000, []⟩ ∧
    seen errorsOf (exec (.wrStatus 0xFFFFFFFE) failed) = some ⟨0x41, 0, 0x50000000, []⟩ ∧
    seen errorsOf (exec (.wrStatus 1) failed) = some ⟨0, 0, 0, []⟩ := by decide

/-! ### Reads -/

/-- Every register of `small`, by its number: R310 to R331. -/
theorem test_read_values :
    (Reg.scalars.map fun r => (readValue small r).toNat) =
      [0, 0, 0, 0, 2, 60, 4, 3, 0x800000, 5, 0x10000000, 0, 3, 0x800000, 0, 3, 0x800000, 0xFFD55556, 0x016534C3, 0, 0] ∧
    (Reg.scalars.map fun r => (readValue failed r).toNat).take 4 = [0, 0x41, 0, 0x50000000] := by decide

/-- The reads reach their registers: one register of each of the four groups. -/
theorem test_reads :
    seen (fun s => s.reads) (exec .rdEnvInc small) = some [0xFFD55556] ∧
    seen (fun s => s.reads) (exec .rdStatus failed) = some [0x41] ∧
    seen (fun s => s.reads) (exec .rdConfig { small with reads := [7] }) = some [7, 2] ∧
    seen (fun s => s.reads) (exec .rdVoiceFtw small) = some [0x016534C3] := by decide

/-- R320: OUT sign-extended, and X8's `E_BAD_ADDR` for the first entry past the block. -/
theorem test_read_out :
    seen errorsOf (exec (.rdOut 1) small) = some ⟨0, 0, 0, [0xFFFFFFFF]⟩ ∧
    seen errorsOf (exec (.rdOut 2) small) = some ⟨0x21, 0x808, 0, [0]⟩ := by decide

/-- T1, T4, T6, T8: RD_FTAB at the default rate. -/
theorem test_read_ftab :
    seen (fun s => s.reads) (exec (.rdFtab 0) small) = some [0x000B29A6] ∧
    seen (fun s => s.reads) (exec (.rdFtab 57) small) = some [0x012C5F93] ∧
    seen (fun s => s.reads) (exec (.rdFtab 69) small) = some [0x0258BF26] ∧
    seen (fun s => s.reads) (exec (.rdFtab 127) small) = some [0x42E68ABC] := by decide +kernel

/-- T9, T10, T11, T12: other rates. -/
theorem test_ftab_rates :
    (ftabRom 44100 69).toNat = 42852281 ∧ (ftabRom 96000 127).toNat = 0x2173455E ∧
    (ftabRom 25088 127).toNat = 2147458645 ∧ (ftabRom 192000 0).toNat = 182890 := by decide +kernel

/-! ### Errors on the bus -/

/-- X1 to X5: misaligned (whatever else is wrong) and unmapped. -/
theorem test_bus_errors :
    seen errorsOf (step (asking small 0x1801 0x1234)) = some ⟨0x11, 0x801, 0x1234, []⟩ ∧
    seen errorsOf (step (asking small 0x0802 0)) = some ⟨0x11, 0x802, 0, [0]⟩ ∧
    seen errorsOf (step (asking small 0x1601 1)) = some ⟨0x11, 0x601, 1, []⟩ ∧
    seen errorsOf (step (asking small 0x1C00 1)) = some ⟨0x21, 0xC00, 1, []⟩ ∧
    seen errorsOf (step (asking small 0x0018 9)) = some ⟨0x21, 0x018, 0, [0]⟩ := by decide

/-- X9 to X12: read-only writes. -/
theorem test_read_only_writes :
    seen errorsOf (exec (.wrRoOut 2 7) small) = some ⟨0x21, 0x808, 7, []⟩ ∧
    seen errorsOf (exec (.wrRoCurnote 5) small) = some ⟨0x31, 0x014, 5, []⟩ ∧
    seen errorsOf (exec (.wrRoFtab 0 1) small) = some ⟨0x31, 0x400, 1, []⟩ ∧
    seen (fun s => (errorsOf s, s.out)) (exec (.wrRoOut 0 1) small) = some (⟨0x31, 0x800, 1, []⟩, [1, 0xFFFF]) := by decide

/-- X14, X17, X19, C10: command words. -/
theorem test_command_errors :
    seen errorsOf (step (asking small 0x1000 0xF0000000)) = some ⟨0x41, 0, 0xF0000000, []⟩ ∧
    seen errorsOf (step (asking small 0x1000 0x10100045)) = some ⟨0x51, 0, 0x10100045, []⟩ ∧
    seen errorsOf (step (asking small 0x1000 0x100000FF)) = some ⟨0x61, 0, 0x100000FF, []⟩ ∧
    seen errorsOf (step (asking small 0x1000 0x30000001)) = some ⟨0x51, 0, 0x30000001, []⟩ := by decide

/-! ### Reset and power -/

/-- R403 and R73: a STEP cut short by reset leaves the reset values; a cut-short halfword, or a word cut short where reset is
asserted already, is no transaction of the block. -/
theorem test_cut_short :
    seen (fun s => (s.env, s.resetLine)) (step { small with pending := [.cutShort ⟨4, 0x1000, 0x30000000⟩] }) =
      some (Env.reset, .asserted) ∧
    seen id (step { small with pending := [.cutShort ⟨2, 0x1000, 0x30000000⟩] }) = none ∧
    seen id (step { small with pending := [.cutShort ⟨4, 0x1000, 0⟩], resetLine := .asserted }) = none := by decide

/-- R375, U17 and log 8: after power loss an access, of a word or not, is refused until a reset. -/
theorem test_power_loss :
    seen (fun s => s.resetLine) (step { small with pending := [.powerLoss] }) = some .neverReset ∧
    seen id (step { asking small 0x1000 0 with resetLine := .neverReset }) = none ∧
    seen (fun s => s.settings) (step { small with pending := [.assertReset], resetLine := .neverReset }) =
      some Settings.reset := by decide

/-! ### The units -/

/-- O2 and O3: the oscillator at FTW_MAX, and across the wrap. -/
theorem test_oscillator :
    Osc.steps 4 ⟨0x7FFFFFFF, 0⟩ = (⟨0x7FFFFFFF, 0xFFFFFFFC⟩, [32767, -32766, 32766, -32766], [0, 201, -201, 201]) ∧
    Osc.steps 2 ⟨0x00400000, 0xFFC00000⟩ = (⟨0x00400000, 0x00400000⟩, [32766, 32767], [-201, 0]) := by decide

/-- S3, S4, S5, S7, S8: the voice product rounds down. -/
theorem test_voice_product :
    voiceSample (-32767) 0x400000 = -8192 ∧ voiceSample 32767 0x400000 = 8191 ∧ voiceSample (-1) 1 = -1 ∧
    voiceSample (-32767) 0xFFFFFF = -32767 ∧ voiceSample 32767 0xFFFFFF = 32766 := by decide

/-- M2, M4, M7, M8, M12, M13: the modulation law. -/
theorem test_modulation :
    modApply (-10001) 0 32768 = -5001 ∧ modApply (-32767) (-32767) 32768 = -1 ∧ modApply 12345 (-32767) 16384 = 6172 ∧
    modApply (-12345) (-32767) 16384 = -6173 ∧ modApply 32767 23170 32768 = 27968 ∧
    modApply 32767 (-23170) 32768 = 4798 := by decide

/-- E3 and E4: a skipped attack, and the last attack sample with a skipped decay. -/
theorem test_envelope_skips :
    envOf (Env.reset.press (adsr 0 2 0x400000 0)) = ⟨2, 16777216, 0, 2, 4194304, -6291456⟩ ∧
    ((Env.reset.press (adsr 3 0 0x400000 0)).after (adsr 3 0 0x400000 0) 2).step (adsr 3 0 0x400000 0) =
      (⟨.sustain, 0x400000, 0, 0, 0x400000, 0⟩, 16777216) := by decide

/-- E6: a release during Attack ends at exactly 0. -/
theorem test_envelope_release :
    (List.range 4).map (fun k =>
      (((Env.reset.press (adsr 4 0 levelOne 3)).step (adsr 4 0 levelOne 3)).1.release (adsr 4 0 levelOne 3)).levelAt
        (adsr 4 0 levelOne 3) k) = [2796203, 1398102, 0, 0] := by decide

/-- Note names (R111): A4 is 69, C-1 is 0, G9 is 127, and G#9 is no note. -/
theorem test_note_names :
    noteOfName .a false 4 = some 69 ∧ noteOfName .c false (-1) = some 0 ∧ noteOfName .g false 9 = some 127 ∧
    noteOfName .g true 9 = none := by decide

/-! ### Witnesses: for each statement with hypotheses, values that meet them all, one for each clause -/

/-- Any access of a running block with legal parameters. -/
theorem asking_small_asks (k : Key) (d : Word) : (asking small k d).Asks ⟨4, k, d⟩ [] :=
  ⟨show small.cfg.Legal by decide, rfl, rfl⟩

/-- NopChangesNothing: the lowest and the highest reserved bit. -/
theorem witness_NopChangesNothing :
    ((1 : Word).extractLsb' 28 4 = 0 ∧ (1 : Word).extractLsb' 0 28 ≠ 0) ∧
    ((0x08000000 : Word).extractLsb' 28 4 = 0 ∧ (0x08000000 : Word).extractLsb' 0 28 ≠ 0) := by decide

/-- PressRetunesAndEntersAttack: the ends of the range, and a state for each of the three entries. -/
theorem witness_PressRetunesAndEntersAttack :
    (0 : BitVec 8).toNat < 128 ∧ (127 : BitVec 8).toNat < 128 ∧ small.settings.attack ≠ 0 ∧
    (adsr 0 2 0 0).attack = 0 ∧ (adsr 0 2 0 0).decay ≠ 0 ∧ fresh.settings.attack = 0 ∧ fresh.settings.decay = 0 := by
  decide

/-- ReleaseActsOnCurrentNoteOnly: the current note outside Idle, with and without a length, and the two ignored cases. -/
theorem witness_ReleaseActsOnCurrentNoteOnly :
    (60 : BitVec 8).toNat < 128 ∧ (60 : BitVec 8).setWidth 7 = small.curNote ∧ small.env.phase ≠ .idle ∧
    small.settings.release ≠ 0 ∧ (127 : BitVec 8).toNat < 128 ∧ (127 : BitVec 8).setWidth 7 ≠ small.curNote ∧
    (0 : BitVec 8).setWidth 7 = fresh.curNote ∧ fresh.env.phase = .idle ∧ fresh.settings.release = 0 := by decide

/-- NoteOutOfRangeRecordsError: the ends of the range. -/
theorem witness_NoteOutOfRangeRecordsError : 128 ≤ (128 : BitVec 8).toNat ∧ 128 ≤ (255 : BitVec 8).toNat := by decide

/-- StepProducesBlock: an entry of the block. -/
theorem witness_StepProducesBlock : 0 < small.cfg.blockSize ∧ 1 < small.cfg.blockSize := by decide

/-- SustainSetterClamps: both sides of the limit. -/
theorem witness_SustainSetterClamps :
    (0x1000000 : Word).toNat ≤ 0x1000000 ∧ 0x1000000 < (0x1000001 : Word).toNat := by decide

/-- ModfreqSetterClamps: both sides of the limit. -/
theorem witness_ModfreqSetterClamps :
    (0x7FFFFFFF : Word).toNat ≤ 0x7FFFFFFF ∧ 0x80000000 ≤ (0x80000000 : Word).toNat := by decide

/-- ModdepthSetterClamps: both sides of the limit. -/
theorem witness_ModdepthSetterClamps : (0x8000 : Word).toNat ≤ 0x8000 ∧ 0x8000 < (0x8001 : Word).toNat := by decide

/-- SettingReadsBackWhatWasWritten: each setter at its largest legal value. -/
theorem witness_SettingReadsBackWhatWasWritten :
    (∃ t, exec (.wrAttack 0xFFFFFFFF) small = .next t) ∧ (∃ t, exec (.wrDecay 0xFFFFFFFF) small = .next t) ∧
    (∃ t, exec (.wrRelease 0xFFFFFFFF) small = .next t) ∧
    ((0x1000000 : Word).toNat ≤ 0x1000000 ∧ ∃ t, exec (.wrSustain 0x1000000) small = .next t) ∧
    ((0x7FFFFFFF : Word).toNat ≤ 0x7FFFFFFF ∧ ∃ t, exec (.wrModfreq 0x7FFFFFFF) small = .next t) ∧
    ((0x8000 : Word).toNat ≤ 0x8000 ∧ ∃ t, exec (.wrModdepth 0x8000) small = .next t) :=
  ⟨⟨_, rfl⟩, ⟨_, rfl⟩, ⟨_, rfl⟩, ⟨by decide, _, rfl⟩, ⟨by decide, _, rfl⟩, ⟨by decide, _, rfl⟩⟩

/-- FtabReads: the ends of the window, aligned and misaligned, read and written. -/
theorem witness_FtabReads :
    (0x0400#13 &&& 0x1E03#13 = 0x0400#13 ∧ 0x05FC#13 &&& 0x1E03#13 = 0x0400#13) ∧
    (0x0401#13 &&& 0x1E00#13 = 0x0400#13 ∧ (0x0401#13).extractLsb' 0 2 ≠ 0) ∧
    (0x05FF#13 &&& 0x1E00#13 = 0x0400#13 ∧ (0x05FF#13).extractLsb' 0 2 ≠ 0) ∧
    (0x1400#13 &&& 0x1E03#13 = 0x1400#13 ∧ 0x15FC#13 &&& 0x1E03#13 = 0x1400#13) := by decide

/-- OutReads: the last entry of the block, the first past it, the last of the window. -/
theorem witness_OutReads :
    small.out.length = small.cfg.blockSize ∧ (1 : BitVec 8).toNat < small.out.length ∧
    small.cfg.blockSize ≤ (2 : BitVec 8).toNat ∧ small.cfg.blockSize ≤ (255 : BitVec 8).toNat := by decide

/-- ReadOnlyWritesAreDropped: the last entry of the block and the first past it. -/
theorem witness_ReadOnlyWritesAreDropped :
    (1 : BitVec 8).toNat < small.cfg.blockSize ∧ small.cfg.blockSize ≤ (2 : BitVec 8).toNat := by decide

/-- FirstErrorIsKept: with and without an error, and an error clear. -/
theorem witness_FirstErrorIsKept :
    failed.error.err = true ∧ small.error.err = false ∧ (1 : Word).getLsbD 0 = true ∧
    ∃ t, exec (.wrStatus 1) failed = .next t := ⟨rfl, rfl, rfl, _, rfl⟩

/-- StepRunsDecodedInstruction: an access and a table word. -/
theorem witness_StepRunsDecodedInstruction :
    ((asking small 0x1000 0x10000045).Asks ⟨4, 0x1000, 0x10000045⟩ [] ∧ decode 0x1000 0x10000045 = .ok (.press 69)) ∧
    (small.cfg.Legal ∧ decodeTableWord 48 0x100010000045 = some (.press 69)) :=
  ⟨⟨asking_small_asks _ _, rfl⟩, by decide⟩

/-- StepRecordsRejectedAccess: a write and a read. -/
theorem witness_StepRecordsRejectedAccess :
    ((asking small 0x1000 0x50000000).Asks ⟨4, 0x1000, 0x50000000⟩ [] ∧ decode 0x1000 0x50000000 = .error .badOpcode) ∧
    ((asking small 0x0018 0).Asks ⟨4, 0x0018, 0⟩ [] ∧ decode 0x0018 0 = .error .badAddr) :=
  ⟨⟨asking_small_asks _ _, rfl⟩, asking_small_asks _ _, rfl⟩

/-- MisalignedAccessIsRecorded: the lowest and the highest misaligned key, a read and a write. -/
theorem witness_MisalignedAccessIsRecorded :
    ((asking small 0x0001 0).Asks ⟨4, 0x0001, 0⟩ [] ∧ (0x0001 : Key).toNat % 4 ≠ 0) ∧
    ((asking small 0x1FFF 5).Asks ⟨4, 0x1FFF, 5⟩ [] ∧ (0x1FFF : Key).toNat % 4 ≠ 0) :=
  ⟨⟨asking_small_asks _ _, by decide⟩, asking_small_asks _ _, by decide⟩

/-- UnmappedAccessIsRecorded: both ends of each unmapped range, with `B = 2`. -/
theorem witness_UnmappedAccessIsRecorded :
    (∀ k d, (asking small k d).Asks ⟨4, k, d⟩ []) ∧
    ([0x018, 0x01C, 0x038, 0x03C, 0x064, 0x3FC, 0x600, 0x7FC, 0x808, 0xFFC, 0x1018, 0x1FFC] : List Key).all (fun k =>
      decide (k.toNat % 4 = 0 ∧
        (let o := (k.extractLsb' 0 12).toNat;
          (0x018 ≤ o ∧ o < 0x020) ∨ (0x038 ≤ o ∧ o < 0x040) ∨ (0x064 ≤ o ∧ o < 0x400) ∨ (0x600 ≤ o ∧ o < 0x800) ∨
            0x800 + 4 * small.cfg.blockSize ≤ o))) = true :=
  ⟨asking_small_asks, by decide⟩

/-- CommandWordIsCheckedThenRun: each clause at the ends of its range. -/
theorem witness_CommandWordIsCheckedThenRun :
    (∀ d, (asking small 0x1000 d).Asks ⟨4, 0x1000, d⟩ []) ∧
    (4 ≤ ((0x40000000 : Word).extractLsb' 28 4).toNat ∧ 4 ≤ ((0xFFFFFFFF : Word).extractLsb' 28 4).toNat) ∧
    (((0x30000001 : Word).extractLsb' 28 4).toNat = 3 ∧ (0x30000001 : Word).extractLsb' 0 28 ≠ 0) ∧
    (((0x08000000 : Word).extractLsb' 28 4).toNat = 0 ∧ (0x08000000 : Word).extractLsb' 0 28 ≠ 0) ∧
    (((0x10000100 : Word).extractLsb' 28 4).toNat = 1 ∧ (0x10000100 : Word).extractLsb' 8 20 ≠ 0) ∧
    (((0x28000000 : Word).extractLsb' 28 4).toNat = 2 ∧ (0x28000000 : Word).extractLsb' 8 20 ≠ 0) ∧
    (((0x10000080 : Word).extractLsb' 28 4).toNat = 1 ∧ (0x10000080 : Word).extractLsb' 8 20 = 0 ∧
      128 ≤ ((0x10000080 : Word).extractLsb' 0 8).toNat) ∧
    (((0x200000FF : Word).extractLsb' 28 4).toNat = 2 ∧ (0x200000FF : Word).extractLsb' 8 20 = 0 ∧
      128 ≤ ((0x200000FF : Word).extractLsb' 0 8).toNat) ∧
    (((0 : Word).extractLsb' 28 4).toNat = 0 ∧ (0 : Word).extractLsb' 0 28 = 0) ∧
    (((0x1000007F : Word).extractLsb' 28 4).toNat = 1 ∧ (0x1000007F : Word).extractLsb' 8 20 = 0 ∧
      ((0x1000007F : Word).extractLsb' 0 8).toNat < 128) ∧
    (((0x20000000 : Word).extractLsb' 28 4).toNat = 2 ∧ (0x20000000 : Word).extractLsb' 8 20 = 0 ∧
      ((0x20000000 : Word).extractLsb' 0 8).toNat < 128) ∧
    (((0x30000000 : Word).extractLsb' 28 4).toNat = 3 ∧ (0x30000000 : Word).extractLsb' 0 28 = 0) :=
  ⟨asking_small_asks _, by decide⟩

/-- ErrStaysUntilCleared: a clear by STATUS and one by reset. -/
theorem witness_ErrStaysUntilCleared :
    (∃ t, step (asking failed 0x1004 1) = .next t ∧ failed.error.err = true ∧ t.error.err = false) ∧
    (∃ t, step { failed with pending := [.assertReset] } = .next t ∧ failed.error.err = true ∧ t.error.err = false) :=
  ⟨⟨_, rfl, rfl, rfl⟩, ⟨_, rfl, rfl, rfl⟩⟩

/-- FaultMarkIsNeverCleared: the mark before, a first error, a later error. -/
theorem witness_FaultMarkIsNeverCleared :
    (∃ t, step (asking failed 0x1004 1) = .next t ∧ failed.faultMark = true) ∧
    (∃ t, step (asking small 0x1014 5) = .next t ∧ t.resetLine ≠ .neverReset ∧ t.error.err = true ∧
      small.error.err = false) ∧
    (∃ t, step (asking failed 0x1014 5) = .next t ∧ t.resetLine ≠ .neverReset ∧ t.error.multi = true ∧
      failed.error.multi = false) :=
  ⟨⟨_, rfl, rfl⟩, ⟨_, rfl, nofun, rfl, rfl⟩, ⟨_, rfl, nofun, rfl, rfl⟩⟩

/-- DecodeEncodeRoundTrip, EncodeDecodeRoundTrip and DecodeAgreesWithOperationMap: an operation, a word and a row. -/
theorem witness_encoding :
    WellFormed (.press 127) ∧ WellFormed (.wrRoOut 255 0xFFFFFFFF) ∧ decode 0x05FC 0 = .ok (.rdFtab 127) ∧
    (0x1BFC : Key).getLsbD 12 = true ∧ decode 0x1BFC 7 = .ok (.wrRoOut 255 7) ∧
    (0x10001000007F : OpWord) &&& Instr.rowMask (.press 0) = Instr.rowMatch (.press 0) :=
  ⟨rfl, rfl, rfl, rfl, rfl, rfl⟩

/-- ResetAtAnyTime: reset asserted, an access cut short, reset released where it is asserted and where not, power loss. -/
theorem witness_ResetAtAnyTime :
    small.cfg.Legal ∧ small.resetLine = .released ∧
    ({ small with pending := [.assertReset] } : State).pending = .assertReset :: [] ∧
    ({ small with pending := [.cutShort ⟨4, 0x1000, 0x30000000⟩] } : State).pending =
      .cutShort ⟨4, 0x1000, 0x30000000⟩ :: [] ∧
    ({ small with pending := [.releaseReset], resetLine := .asserted } : State).resetLine = .asserted ∧
    ({ small with pending := [.releaseReset] } : State).pending = .releaseReset :: [] ∧ small.resetLine ≠ .asserted ∧
    ({ small with pending := [.powerLoss] } : State).pending = .powerLoss :: [] := by decide

/-- StepStopsOutsideTheInterface: each clause. -/
theorem witness_StepStopsOutsideTheInterface :
    (¬ ({ small with cfg := ⟨0, 48000⟩ } : State).cfg.Legal ∧ ¬ ({ small with cfg := ⟨257, 48000⟩ } : State).cfg.Legal) ∧
    (small.cfg.Legal ∧ small.pending = []) ∧
    (asking small 0x1000 0).pending = .access ⟨4, 0x1000, 0⟩ :: [] ∧
    ({ small with pending := [.cutShort ⟨1, 0x1000, 0⟩] } : State).pending = .cutShort ⟨1, 0x1000, 0⟩ :: [] ∧
    ({ asking small 0x1000 0 with resetLine := .asserted } : State).resetLine = .asserted ∧
    ({ asking small 0x1000 0 with resetLine := .neverReset } : State).resetLine = .neverReset ∧
    small.resetLine = .released ∧ 1 ≠ 4 := by decide

/-- ResetMeetsInvariant: the default and both ends of the legal parameters. -/
theorem witness_ResetMeetsInvariant :
    Config.default.Legal ∧ (⟨1, 25088⟩ : Config).Legal ∧ (⟨256, 192000⟩ : Config).Legal := by decide

/-- The envelope's invariant in the middle of an attack. -/
theorem attack_env_inv : Env.Inv ⟨.attack, 4194304, 1, 4, levelOne, 4194304⟩ where
  level_le := by decide
  target_le := by decide
  inc_ge := by decide
  inc_le := by decide
  count_le := by decide
  count_lt := by decide
  idle_level := by decide
  attack_target := by decide
  release_target := by decide
  on_course := by decide

/-- `small` in the middle of an attack. -/
def attacking : State := { small with env := ⟨.attack, 4194304, 1, 4, levelOne, 4194304⟩ }

/-- The voice's tuning word is note 60's. -/
theorem small_voice_ftw : small.voice.ftw = ftabRom 48000 60 := by decide +kernel

/-- A block in the middle of an attack is sound. -/
theorem attacking_sound : (asking attacking 0x1000 0x30000000).Sound where
  env := attack_env_inv
  sustain_le := by decide
  depth_le := by decide
  modFtw_le := by decide
  voiceFtw := .inr ⟨60, by decide, small_voice_ftw⟩
  out_range := List.forall_mem_cons.mpr ⟨by decide, List.forall_mem_cons.mpr ⟨by decide, nofun⟩⟩
  error := ⟨fun _ => rfl, by decide⟩
  mark := by decide

/-- StepKeepsInvariant, its first hypothesis: the same block meets the invariant. -/
theorem attacking_inv : (asking attacking 0x1000 0x30000000).Inv where
  legal := show small.cfg.Legal by decide
  out_length := rfl
  sound := fun _ => attacking_sound

/-- StepKeepsInvariant: its STEP goes on. -/
theorem witness_StepKeepsInvariant :
    (asking attacking 0x1000 0x30000000).Inv ∧ ∃ t, step (asking attacking 0x1000 0x30000000) = .next t :=
  ⟨attacking_inv, attacking.cmdStep, rfl⟩

/-- EveryOperationCompletes and ParametersAreConstant: a word access of a running block, and its next state. -/
theorem witness_step_goes_on :
    (asking small 0x1020 9).Asks ⟨4, 0x1020, 9⟩ [] ∧ ∃ t, step (asking small 0x1020 9) = .next t :=
  ⟨asking_small_asks _ _, _, rfl⟩

/-- OnlyCommandsMoveTheVoice: an operation that is no command, a command that is no STEP, one that is no PRESS. -/
theorem witness_OnlyCommandsMoveTheVoice :
    (isCommand (.wrAttack 9) = false ∧ ∃ t, exec (.wrAttack 9) small = .next t) ∧
    (isCommand (.press 1) = true ∧ Instr.press 1 ≠ .step ∧ ∃ t, exec (.press 1) small = .next t) ∧
    (isCommand .step = true ∧ (∀ n, Instr.step ≠ .press n) ∧ ∃ t, exec .step small = .next t) :=
  ⟨⟨rfl, _, rfl⟩, ⟨rfl, by decide, _, rfl⟩, ⟨rfl, fun _ => nofun, _, rfl⟩⟩

/-- ReadsHaveNoSideEffect: a read, the rejected read, and an operation that is no read. -/
theorem witness_ReadsHaveNoSideEffect :
    (isRead .rdCmd = true ∧ ∃ t, exec .rdCmd small = .next t) ∧
    (isRead (.rdOut 2) = true ∧ small.cfg.blockSize ≤ (2 : BitVec 8).toNat ∧ ∃ t, exec (.rdOut 2) small = .next t) ∧
    (isRead .nop = false ∧ ∃ t, exec .nop small = .next t) :=
  ⟨⟨rfl, _, rfl⟩, ⟨rfl, by decide, _, rfl⟩, ⟨rfl, _, rfl⟩⟩

/-- LastNotePriority: another note, and the presses of P5. -/
theorem witness_LastNotePriority :
    ((61 : BitVec 8).toNat < 128 ∧ (61 : BitVec 8).toNat ≠ small.curNote.toNat) ∧
    ((60 : BitVec 8).toNat < 128 ∧ (64 : BitVec 8).toNat < 128 ∧ (60 : BitVec 8) ≠ 64 ∧
      ∃ t₁ t₂, exec (.press 60) fresh = .next t₁ ∧ exec (.press 64) t₁ = .next t₂) :=
  ⟨by decide, by decide, by decide, by decide, fresh.cmdPress 60, (fresh.cmdPress 60).cmdPress 64, rfl, rfl⟩

/-- PowerLossForgetsState: two blocks that hold different elements, at a loss of power. -/
theorem witness_PowerLossForgetsState :
    small.cfg.Legal ∧ small.cfg = fresh.cfg ∧ small.draws = fresh.draws ∧ small.reads = fresh.reads ∧
    small.faultMark = fresh.faultMark ∧ small.env ≠ fresh.env ∧
    ({ small with pending := [.powerLoss] } : State).pending = .powerLoss :: [] ∧
    ({ fresh with pending := [.powerLoss] } : State).pending = .powerLoss :: [] ∧
    ({ small with pending := [.powerLoss, .assertReset] } : State).pending = .powerLoss :: .assertReset :: [] := by decide

/-- FtabIsRoundedClosedForm and FtabIncreasesBySemitones: the ends of both ranges, and a block on each side of them. -/
theorem witness_ftab :
    (25088 ≤ 25088 ∧ 25088 ≤ 192000 ∧ 25088 ≤ 192000 ∧ 192000 ≤ 192000 ∧ 0 < 128 ∧ 127 < 128 ∧ 126 < 127) ∧
    ({ small with cfg := ⟨2, 25087⟩ } : State).cfg.fs < 25088 ∧
    192000 < ({ small with cfg := ⟨2, 192001⟩ } : State).cfg.fs := by decide

/-- CosineTableSymmetry: the ends of each clause's range. -/
theorem witness_CosineTableSymmetry : 0 < 1024 ∧ 1023 < 1024 ∧ 512 ≤ 512 ∧ 1 ≤ 1 ∧ 1 < 1024 := by decide

/-- ModulationLaw: the ends of every range, and each corner. -/
theorem witness_ModulationLaw :
    (-32767 ≤ (-32767 : Int) ∧ (-32767 : Int) ≤ 32767 ∧ (32767 : Int) ≤ 32767 ∧ 0 ≤ 32768 ∧ 32768 ≤ 32768) ∧
    (-32767 : Int) < 0 := by decide

/-- DepthEndPoints: depth 0 in a state whose STEP goes on, and the ends of the modulator's range. -/
theorem witness_DepthEndPoints :
    small.settings.modDepth = 0 ∧ (∃ t, exec .step small = .next t) ∧ -32767 ≤ (-32767 : Int) ∧
    (32767 : Int) ≤ 32767 := ⟨rfl, ⟨_, rfl⟩, by decide, by decide⟩

/-- VoiceProductBounded: the ends of both ranges. -/
theorem witness_VoiceProductBounded :
    -32767 ≤ (-32767 : Int) ∧ (32767 : Int) ≤ 32767 ∧ levelOne.toNat ≤ 16777216 ∧ levelOne.toNat = 16777216 ∧
    (0 : Level).toNat = 0 := by decide

/-- EnvelopeSample: an inner sample of E1's attack, and the last sample of a decay, a release and an attack before a decay
and before a skipped one. -/
theorem witness_EnvelopeSample :
    Env.reset.phase = .idle ∧ small.env.phase = .sustain ∧
    ((⟨.attack, 0, 0, 4, levelOne, 4194304⟩ : Env).phase.isRamp = true ∧ (0 : Word).toNat + 1 < (4 : Word).toNat ∧
      ((4194304 : Level).toNat : Int) = (0 : Level).toNat + (4194304 : Increment).toInt) ∧
    ((⟨.decay, 11184812, 2, 3, 8388608, BitVec.ofInt 26 (-2796202)⟩ : Env).phase = .decay ∧
      (2 : Word).toNat + 1 = (3 : Word).toNat) ∧
    ((⟨.release, 1677724, 4, 5, 0, BitVec.ofInt 26 (-1677721)⟩ : Env).phase = .release ∧
      (4 : Word).toNat + 1 = (5 : Word).toNat) ∧
    ((⟨.attack, 12582912, 3, 4, levelOne, 4194304⟩ : Env).phase = .attack ∧ (3 : Word).toNat + 1 = (4 : Word).toNat ∧
      small.settings.decay ≠ 0 ∧ fresh.settings.decay = 0) ∧
    ((⟨.attack, 0, 3, 4, levelOne, 4194304⟩ : Env).phase.isRamp = true ∧ (3 : Word).toNat < (4 : Word).toNat) := by decide

/-- RampTrajectory and RampIsMonotoneAndBounded: the ends of the levels, a rising and a falling ramp, and one shorter in
value than in time (E9). -/
theorem witness_ramps :
    (Phase.attack.isRamp = true ∧ (0 : Level).toNat ≤ 16777216 ∧ levelOne.toNat ≤ 16777216 ∧ (4 : Word) ≠ 0 ∧
      1 ≤ 1 ∧ 3 < (4 : Word).toNat ∧ 2 + 1 < (4 : Word).toNat) ∧
    (Phase.release.isRamp = true ∧ (0 : Level).toNat ≤ levelOne.toNat ∧ (1 : Word) ≠ 0 ∧ 0 < (1 : Word).toNat) ∧
    (Phase.decay.isRamp = true ∧ levelOne.toNat < (16777213 : Level).toNat + (5 : Word).toNat ∧
      (16777213 : Level).toNat < levelOne.toNat + (5 : Word).toNat ∧ 0 + 1 < (5 : Word).toNat) := by decide

/-- ZeroLengthPhases: the reset settings, in Idle and elsewhere. -/
theorem witness_ZeroLengthPhases :
    fresh.settings.attack = 0 ∧ fresh.settings.decay = 0 ∧ fresh.settings.release = 0 ∧
    fresh.settings.sustain = 0x1000000 ∧ (Env.reset.phase = .idle → Env.reset.level = 0) ∧ small.env.phase ≠ .idle := by
  decide

/-- HeldNoteReachesSustain: E1's settings at their first sustain sample, and no lengths at all. -/
theorem witness_HeldNoteReachesSustain :
    Env.reset.level.toNat ≤ 16777216 ∧ small.settings.sustain.toNat ≤ 16777216 ∧
    small.settings.attack.toNat + small.settings.decay.toNat ≤ 7 ∧ fresh.settings.sustain.toNat ≤ 16777216 ∧
    fresh.settings.attack.toNat + fresh.settings.decay.toNat ≤ 0 := by decide

/-- ReleaseFallsToIdle: the release of `small`. -/
theorem witness_ReleaseFallsToIdle :
    small.env.level.toNat ≤ 16777216 ∧ small.env.phase ≠ .idle ∧ small.settings.release ≠ 0 ∧
    small.settings.release.toNat ≤ 5 := by decide

/-- BatchTruncatesToWholeBlocks: V1.7's `n = 40` with `B = 16`, and both ends of the block sizes. -/
theorem witness_BatchTruncatesToWholeBlocks :
    1 ≤ 16 ∧ 16 ≤ 256 ∧ 1 ≤ 1 ∧ 256 ≤ 256 ∧ (List.replicate 32 (0 : Word)).length = 40 / 16 * 16 ∧
    (List.replicate 40 (7 : Sample)).length = 40 ∧ 40 / 16 * 16 ≤ 39 ∧ 31 < 40 / 16 * 16 ∧ Config.default.Legal ∧
    (⟨1, 25088⟩ : Config).Legal ∧ (⟨256, 192000⟩ : Config).Legal := by decide

end Sys2Proof.Tests
end

namespace Sys2Proof.Machine

/-! ### The reset values (R44) -/

/-- A reset block's OUT holds `B` samples, whether or not `B` is a legal block size. -/
@[simp] theorem State.resetWith_out_length (c : Config) : (State.resetWith c).out.length = c.blockSize :=
  drawSamples_length c.blockSize 0

/-- OUT is unspecified at reset, but each entry lies in `-AMP_MAX .. AMP_MAX` (R44). -/
theorem State.resetWith_out_range {c : Config} {x : Sample} (hx : x ∈ (State.resetWith c).out) :
    -ampMax ≤ x.toInt ∧ x.toInt ≤ ampMax :=
  drawSamples_range hx

/-- Settles O33: every element but OUT is at its value by the definition of reset, and OUT is drawn from the legal
samples. -/
theorem resetValues : Obligations.ResetValues := by
  intro c
  refine ⟨rfl, ?settings, rfl, ?env, ?voice, ?modulator, ?error, State.resetWith_out_length c, ?out⟩
  case settings => exact (rfl : Settings.reset = ⟨0, 0, 0x1000000#25, 0, 0⟩)
  case env => exact (rfl : Env.reset = ⟨.idle, 0, 0, 0, 0, 0⟩)
  case voice | modulator => exact (rfl : Osc.reset = ⟨0, 0⟩)
  case error => exact (rfl : ErrState.clear = ⟨false, false, none, 0, 0⟩)
  case out => exact fun x hx => State.resetWith_out_range hx

end Sys2Proof.Machine

namespace Sys2Proof

/-! ### What a key decodes to (R72, R74, R106) -/

/-- The two low bits of a key's offset are zero exactly when the key is a multiple of 4 (R74). -/
theorem keyOffset_aligned_iff (k : Key) : (keyOffset k).extractLsb' 0 2 = 0#2 ↔ k.toNat % 4 = 0 := by
  have hlow : ((keyOffset k).extractLsb' 0 2).toNat = k.toNat % 4 := by
    simp only [keyOffset, BitVec.extractLsb'_toNat, Nat.shiftRight_zero]
    omega
  rw [← hlow]
  exact BitVec.toNat_inj.symm

/-- A misaligned key is rejected before the map is looked at (R106). -/
theorem decode_of_misaligned {k : Key} (h : k.toNat % 4 ≠ 0) (d : Word) : decode k d = .error .misaligned :=
  if_pos (mt (keyOffset_aligned_iff k).mp h)

/-- An aligned key whose offset selects no register is rejected (R72, R106). -/
theorem decode_of_regAt_none {k : Key} (h : k.toNat % 4 = 0) (hreg : regAt (keyOffset k) = none) (d : Word) :
    decode k d = .error .badAddr := by
  simp [decode, (keyOffset_aligned_iff k).mpr h, hreg]

/-- An aligned key whose offset selects a register is decoded by its direction (R106). -/
theorem decode_of_regAt_some {k : Key} {r : Reg} (h : k.toNat % 4 = 0) (hreg : regAt (keyOffset k) = some r)
    (d : Word) : decode k d = if keyWrites k then decodeWrite r d else .ok (decodeRead r) := by
  simp [decode, (keyOffset_aligned_iff k).mpr h, hreg]

/-! ### The mapped offsets (R71) -/

/-- An offset is put together again from the fields of a window's map: the window, the index and the two low bits. -/
theorem join_window_fields {n m k : Nat} (a : Offset) (h : k = 2 + m) :
    a.extractLsb' k n ++ a.extractLsb' 2 m ++ a.extractLsb' 0 2 = a.extractLsb' 0 (n + m + 2) := by
  rw [BitVec.extractLsb'_append_extractLsb'_eq_extractLsb' h,
    BitVec.extractLsb'_append_extractLsb'_eq_extractLsb' (Nat.zero_add 2).symm]

/-- The register an aligned offset selects is the one that stands there (R71). -/
theorem offset_of_regAt {a : Offset} {r : Reg} (ha : a.extractLsb' 0 2 = 0#2) (h : regAt a = some r) : r.offset = a := by
  unfold regAt at h
  split at h
  case isTrue hwindow =>
    obtain rfl := Option.some.inj h
    rw [Reg.offset, ← hwindow, ← ha]
    exact (join_window_fields a rfl).trans BitVec.extractLsb'_eq_self
  case isFalse =>
    split at h
    case isTrue hwindow =>
      obtain rfl := Option.some.inj h
      rw [Reg.offset, ← hwindow, ← ha]
      exact (join_window_fields a rfl).trans BitVec.extractLsb'_eq_self
    case isFalse => simpa using List.find?_some h

/-- The offset of an entry of the OUT window (R71). -/
theorem Reg.out_offset_toNat (j : BitVec 8) : (Reg.out j).offset.toNat = 0x800 + 4 * j.toNat := by
  revert j; decide

/-- Outside the OUT window a mapped offset lies in one of the four other ranges of the map (R71). -/
theorem Reg.offset_ranges (r : Reg) :
    (∃ j, r = .out j) ∨ r.offset.toNat < 0x018 ∨ (0x020 ≤ r.offset.toNat ∧ r.offset.toNat < 0x038) ∨
      (0x040 ≤ r.offset.toNat ∧ r.offset.toNat < 0x064) ∨ (0x400 ≤ r.offset.toNat ∧ r.offset.toNat < 0x600) := by
  cases r with
  | ftab i => revert i; decide
  | out j => exact .inl ⟨j, rfl⟩
  | _ => exact .inr (by decide)

/-- The offsets R72 calls unmapped: the gaps of the map, and the OUT window from `OUT[B]` on. -/
def UnmappedOffset (b o : Nat) : Prop :=
  (0x018 ≤ o ∧ o < 0x020) ∨ (0x038 ≤ o ∧ o < 0x040) ∨ (0x064 ≤ o ∧ o < 0x400) ∨ (0x600 ≤ o ∧ o < 0x800) ∨
    0x800 + 4 * b ≤ o

/-- The only registers of the map at unmapped offsets are the entries of OUT from `OUT[B]` on (R72). -/
theorem eq_out_of_unmapped {b : Nat} {r : Reg} (h : UnmappedOffset b r.offset.toNat) :
    ∃ j, r = .out j ∧ b ≤ j.toNat := by
  unfold UnmappedOffset at h
  rcases r.offset_ranges with ⟨j, rfl⟩ | hrange
  · have hj := Reg.out_offset_toNat j
    exact ⟨j, rfl, by omega⟩
  · omega

end Sys2Proof

namespace Sys2Proof.Machine

/-! ### Accesses the block rejects (R72, R74, R363) -/

/-- A running block performs the word access it is asked for. -/
theorem step_eq_performAccess {s : State} {a : Access} {rest : List Event} (h : s.Asks a rest) (hs : a.size = 4) :
    step s = performAccess a { s with pending := rest } :=
  step_of_asks h hs

/-- A transaction that decodes to an operation executes it. -/
theorem performAccess_of_ok {a : Access} {i : Instr} (hd : decode a.key a.data = .ok i) (s : State) :
    performAccess a s = exec i s := by
  rw [performAccess, hd]

/-- A transaction that decodes to no operation is rejected. -/
theorem performAccess_of_error {a : Access} {x : DecodeError} (hd : decode a.key a.data = .error x) (s : State) :
    performAccess a s = .next (rejectAccess x a s) := by
  rw [performAccess, hd]

/-- From `OUT[B]` on, a read of OUT is rejected as an unmapped one (R72, R320). -/
theorem exec_rdOut_of_le {s : State} {j : BitVec 8} (h : s.cfg.blockSize ≤ j.toNat) :
    exec (.rdOut j) s = .next (rejectRead .badAddr (Reg.out j).offset s) :=
  if_neg (by simpa [outMapped] using h)

/-- From `OUT[B]` on, a write to OUT is rejected as an unmapped one (R332, R364). -/
theorem exec_wrRoOut_of_le {s : State} {j : BitVec 8} (h : s.cfg.blockSize ≤ j.toNat) (d : Word) :
    exec (.wrRoOut j d) s = .next (rejectWrite .badAddr (Reg.out j).offset d s) :=
  if_neg (by simpa [outMapped] using h)

/-- The decoder accepts `OUT[j]` for every `j`; from `OUT[B]` on the operation does what the decoder's own rejection of an
unmapped offset does (R72, R364). -/
theorem performAccess_out_of_le {s : State} {a : Access} {j : BitVec 8} (ha : a.key.toNat % 4 = 0)
    (hreg : regAt (keyOffset a.key) = some (.out j)) (hj : s.cfg.blockSize ≤ j.toNat) :
    performAccess a s = .next (rejectAccess .badAddr a s) := by
  have hoffset : (Reg.out j).offset = keyOffset a.key := offset_of_regAt ((keyOffset_aligned_iff _).mpr ha) hreg
  have hd := decode_of_regAt_some ha hreg a.data
  rcases rejectAccess_cases .badAddr a s with ⟨hw, hreject⟩ | ⟨hw, hreject⟩ <;> rw [hw] at hd
  · rw [performAccess_of_ok hd, hreject, ← hoffset]
    exact exec_wrRoOut_of_le hj a.data
  · rw [performAccess_of_ok hd, hreject, ← hoffset]
    exact exec_rdOut_of_le hj

/-- An aligned transaction on an unmapped offset is rejected with `E_BAD_ADDR`, by the decoder or, in the OUT window, by the
operation (R72). -/
theorem performAccess_of_unmapped {s : State} {a : Access} (ha : a.key.toNat % 4 = 0)
    (hu : UnmappedOffset s.cfg.blockSize (keyOffset a.key).toNat) :
    performAccess a s = .next (rejectAccess .badAddr a s) := by
  cases hreg : regAt (keyOffset a.key) with
  | none => exact performAccess_of_error (decode_of_regAt_none ha hreg a.data) s
  | some r =>
    rw [← offset_of_regAt ((keyOffset_aligned_iff _).mpr ha) hreg] at hu
    obtain ⟨j, rfl, hj⟩ := eq_out_of_unmapped hu
    exact performAccess_out_of_le ha hreg hj

/-- Settles O24: the decoder checks the alignment before the map, so a misaligned access is rejected wherever it goes. -/
theorem misalignedAccessIsRecorded : Obligations.MisalignedAccessIsRecorded := by
  intro s a rest h hs ha
  rw [step_eq_performAccess h hs]
  exact performAccess_of_error (decode_of_misaligned ha a.data) _

/-- Settles O25: an aligned unmapped offset selects no register, or an entry of OUT from `OUT[B]` on, and both are rejected
alike. -/
theorem unmappedAccessIsRecorded : Obligations.UnmappedAccessIsRecorded := by
  intro s a rest h hs ha hu
  rw [step_eq_performAccess h hs]
  exact performAccess_of_unmapped ha hu

end Sys2Proof.Machine

namespace Sys2Proof

/-! ### The checks on a command word (R105) -/

/-- A write to CMD is decoded by the checks on its command word (R106). -/
theorem decode_cmdKey (d : Word) : decode 0x1000#13 d = decodeCmd d :=
  decode_writeKey .cmd d

section
variable {d : Word}

/-- The first check: the opcode is one of the four. -/
theorem decodeCmd_badOpcode (hop : 4 ≤ (d.extractLsb' 28 4).toNat) : decodeCmd d = .error .badOpcode :=
  if_pos hop

/-- The second check: NOP and STEP leave all other bits zero. -/
theorem decodeCmd_reservedBits_of_nop_step (hop : (d.extractLsb' 28 4).toNat = 0 ∨ (d.extractLsb' 28 4).toNat = 3)
    (hrsv : d.extractLsb' 0 28 ≠ 0) : decodeCmd d = .error .reservedBits := by
  unfold decodeCmd
  rw [if_neg (by omega), if_pos ⟨hop, hrsv⟩]

/-- The third check: PRESS and RELEASE leave the bits above the note zero. -/
theorem decodeCmd_reservedBits_of_press_release
    (hop : (d.extractLsb' 28 4).toNat = 1 ∨ (d.extractLsb' 28 4).toNat = 2) (hrsv : d.extractLsb' 8 20 ≠ 0) :
    decodeCmd d = .error .reservedBits := by
  unfold decodeCmd
  rw [if_neg (by omega), if_neg (by omega), if_pos ⟨hop, hrsv⟩]

/-- The last check: the note of a PRESS or RELEASE is below 128. -/
theorem decodeCmd_noteRange (hop : (d.extractLsb' 28 4).toNat = 1 ∨ (d.extractLsb' 28 4).toNat = 2)
    (hrsv : d.extractLsb' 8 20 = 0) (hnote : 128 ≤ (d.extractLsb' 0 8).toNat) : decodeCmd d = .error .noteRange := by
  unfold decodeCmd
  rw [if_neg (by omega), if_neg (by omega), if_neg (fun h => h.2 hrsv), if_pos ⟨hop, hnote⟩]

/-- A word that passes the checks is dispatched on its opcode alone (R280). -/
theorem decodeCmd_of_checked (hop : (d.extractLsb' 28 4).toNat < 4)
    (hplain : (d.extractLsb' 28 4).toNat = 0 ∨ (d.extractLsb' 28 4).toNat = 3 → d.extractLsb' 0 28 = 0)
    (hnoted : (d.extractLsb' 28 4).toNat = 1 ∨ (d.extractLsb' 28 4).toNat = 2 →
      d.extractLsb' 8 20 = 0 ∧ (d.extractLsb' 0 8).toNat < 128) :
    decodeCmd d =
      if (d.extractLsb' 28 4).toNat = 0 then .ok .nop
      else if (d.extractLsb' 28 4).toNat = 1 then .ok (.press (d.extractLsb' 0 8))
      else if (d.extractLsb' 28 4).toNat = 2 then .ok (.release (d.extractLsb' 0 8))
      else .ok .step := by
  unfold decodeCmd
  rw [if_neg (by omega), if_neg (fun h => h.2 (hplain h.1)), if_neg (fun h => h.2 (hnoted h.1).1),
    if_neg (fun h => absurd (hnoted h.1).2 (by omega))]

/-- The word of a NOP. -/
theorem decodeCmd_nop (hop : (d.extractLsb' 28 4).toNat = 0) (hrsv : d.extractLsb' 0 28 = 0) :
    decodeCmd d = .ok .nop := by
  rw [decodeCmd_of_checked (by omega) (fun _ => hrsv) (by omega), if_pos hop]

/-- The word of a PRESS. -/
theorem decodeCmd_press (hop : (d.extractLsb' 28 4).toNat = 1) (hrsv : d.extractLsb' 8 20 = 0)
    (hnote : (d.extractLsb' 0 8).toNat < 128) : decodeCmd d = .ok (.press (d.extractLsb' 0 8)) := by
  rw [decodeCmd_of_checked (by omega) (by omega) (fun _ => ⟨hrsv, hnote⟩), if_neg (by omega), if_pos hop]

/-- The word of a RELEASE. -/
theorem decodeCmd_release (hop : (d.extractLsb' 28 4).toNat = 2) (hrsv : d.extractLsb' 8 20 = 0)
    (hnote : (d.extractLsb' 0 8).toNat < 128) : decodeCmd d = .ok (.release (d.extractLsb' 0 8)) := by
  rw [decodeCmd_of_checked (by omega) (by omega) (fun _ => ⟨hrsv, hnote⟩), if_neg (by omega), if_neg (by omega),
    if_pos hop]

/-- The word of a STEP. -/
theorem decodeCmd_step (hop : (d.extractLsb' 28 4).toNat = 3) (hrsv : d.extractLsb' 0 28 = 0) :
    decodeCmd d = .ok .step := by
  rw [decodeCmd_of_checked (by omega) (fun _ => hrsv) (by omega), if_neg (by omega), if_neg (by omega),
    if_neg (by omega)]

end

end Sys2Proof

namespace Sys2Proof.Machine

/-! ### A write to CMD (R280) -/

/-- A rejected write records its error with its offset and data (R363). -/
theorem rejectAccess_of_keyWrites {a : Access} (hw : keyWrites a.key = true) (x : DecodeError) (s : State) :
    rejectAccess x a s = s.raise (.ofDecode x) (keyOffset a.key) a.data :=
  if_pos hw

/-- A rejected write to CMD records its error with offset 0 and the command word (R105). -/
theorem rejectAccess_cmd (x : DecodeError) (d : Word) (s : State) :
    rejectAccess x ⟨4, 0x1000#13, d⟩ s = s.raise (.ofDecode x) 0x000#12 d := by
  have hwrites : keyWrites 0x1000#13 = true := keyWrites_writeKey .cmd
  have hoffset : keyOffset 0x1000#13 = 0x000#12 := keyOffset_writeKey .cmd
  rw [rejectAccess_of_keyWrites (a := ⟨4, 0x1000#13, d⟩) hwrites, hoffset]

section
variable {s : State} {d : Word} {rest : List Event}

/-- A command word that passes the checks runs its command. -/
theorem step_of_decodeCmd_ok {i : Instr} (h : s.Asks ⟨4, 0x1000#13, d⟩ rest) (hd : decodeCmd d = .ok i) :
    step s = exec i { s with pending := rest } := by
  rw [step_eq_performAccess h rfl]
  exact performAccess_of_ok (a := ⟨4, 0x1000#13, d⟩) ((decode_cmdKey d).trans hd) _

/-- A command word that fails a check is recorded with offset 0 and the word, and no command is run. -/
theorem step_of_decodeCmd_error {x : DecodeError} (h : s.Asks ⟨4, 0x1000#13, d⟩ rest) (hd : decodeCmd d = .error x) :
    step s = .next (({ s with pending := rest } : State).raise (.ofDecode x) 0x000#12 d) := by
  rw [step_eq_performAccess h rfl, ← rejectAccess_cmd]
  exact performAccess_of_error (a := ⟨4, 0x1000#13, d⟩) ((decode_cmdKey d).trans hd) _

end

/-- Settles O26: the step follows the decoding of the command word, and each clause is one outcome of its checks. -/
theorem commandWordIsCheckedThenRun : Obligations.CommandWordIsCheckedThenRun := by
  intro s d rest h
  refine ⟨?badOpcode, ?plainReserved, ?notedReserved, ?noteRange, ?nop, ?press, ?release, ?step⟩
  case badOpcode => exact fun hop => step_of_decodeCmd_error h (decodeCmd_badOpcode hop)
  case plainReserved =>
    exact fun hop hrsv => step_of_decodeCmd_error h (decodeCmd_reservedBits_of_nop_step hop hrsv)
  case notedReserved =>
    exact fun hop hrsv => step_of_decodeCmd_error h (decodeCmd_reservedBits_of_press_release hop hrsv)
  case noteRange =>
    exact fun hop hrsv hnote => step_of_decodeCmd_error h (decodeCmd_noteRange hop hrsv hnote)
  case nop => exact fun hop hrsv => step_of_decodeCmd_ok h (decodeCmd_nop hop hrsv)
  case press => exact fun hop hrsv hnote => step_of_decodeCmd_ok h (decodeCmd_press hop hrsv hnote)
  case release => exact fun hop hrsv hnote => step_of_decodeCmd_ok h (decodeCmd_release hop hrsv hnote)
  case step => exact fun hop hrsv => step_of_decodeCmd_ok h (decodeCmd_step hop hrsv)

end Sys2Proof.Machine

namespace Sys2Proof.Machine

/-! ### The frequency ROM is the rounded closed form (R142) -/

/-- The closed form of R142, in exact real arithmetic: `2^32 * 440 * 2^((i - 69)/12) / FS`. -/
noncomputable def ftabExact (fs i : Nat) : ℝ :=
  (2 : ℝ) ^ 32 * 440 * (2 : ℝ) ^ (((i : ℝ) - 69) / 12) / fs

/-- The closed form is not negative. -/
theorem ftabExact_nonneg (fs i : Nat) : 0 ≤ ftabExact fs i := by
  unfold ftabExact; positivity

/-- R142's other form of the same value: the reference frequency `F_REF` raised by `i` semitones. -/
theorem ftabExact_eq_semitones_above_reference (fs i : Nat) :
    ftabExact fs i = (2 : ℝ) ^ 32 * (440 * (2 : ℝ) ^ (-(69 : ℝ) / 12)) * (2 : ℝ) ^ ((i : ℝ) / 12) / fs := by
  have hsplit : (2 : ℝ) ^ (((i : ℝ) - 69) / 12) = (2 : ℝ) ^ (-(69 : ℝ) / 12) * (2 : ℝ) ^ ((i : ℝ) / 12) := by
    rw [← Real.rpow_add two_pos]
    ring_nf
  rw [ftabExact, hsplit]
  ring

/-- The twelfth root leaves the closed form when it is raised to the 12th power. -/
theorem semitones_pow_twelve (i : Nat) : ((2 : ℝ) ^ (((i : ℝ) - 69) / 12)) ^ 12 * 2 ^ 69 = 2 ^ i := by
  rw [← Real.rpow_mul_natCast two_pos.le, ← Real.rpow_natCast 2 69, ← Real.rpow_add two_pos, ← Real.rpow_natCast 2 i]
  congr 1
  push_cast
  ring

/-- The integer the model compares with is the closed form times `2 * FS`, to the 12th power, times `2^69`. -/
theorem ftabExact_pow_twelve {fs : Nat} (hfs : 0 < fs) (i : Nat) :
    (2 * ftabExact fs i * fs) ^ 12 * 2 ^ 69 = (2 ^ 33 * 440) ^ 12 * 2 ^ i := by
  have hclear : 2 * ftabExact fs i * fs = 2 ^ 33 * 440 * (2 : ℝ) ^ (((i : ℝ) - 69) / 12) := by
    unfold ftabExact
    field_simp
  rw [hclear, mul_pow _ (_ ^ (_ : ℝ)), mul_assoc, semitones_pow_twelve]

/-- The model's comparison of integers says that `n - 1/2` is at most the closed form. -/
theorem ftabFits_iff_le_ftabExact {fs n : Nat} (hfs : 0 < fs) (hn : 1 ≤ n) (i : Nat) :
    ftabFits fs i n = true ↔ (n : ℝ) - 1 / 2 ≤ ftabExact fs i := by
  have hfs' : (0 : ℝ) < fs := Nat.cast_pos.mpr hfs
  have hn' : (1 : ℝ) ≤ n := Nat.one_le_cast.mpr hn
  have hone : 1 ≤ 2 * n := by omega
  have hleft : 0 ≤ (2 * (n : ℝ) - 1) * fs := mul_nonneg (by linarith) hfs'.le
  have hright : 0 ≤ 2 * ftabExact fs i * fs := by have := ftabExact_nonneg fs i; positivity
  calc ftabFits fs i n = true
      ↔ ((2 * (n : ℝ) - 1) * fs) ^ 12 * 2 ^ 69 ≤ (2 ^ 33 * 440) ^ 12 * 2 ^ i := by
        rw [ftabFits, decide_eq_true_iff, ← Nat.cast_le (α := ℝ)]
        simp only [Nat.cast_mul, Nat.cast_pow, Nat.cast_sub hone, Nat.cast_ofNat, Nat.cast_one]
    _ ↔ ((2 * (n : ℝ) - 1) * fs) ^ 12 ≤ (2 * ftabExact fs i * fs) ^ 12 := by
        rw [← ftabExact_pow_twelve hfs, mul_le_mul_iff_left₀ (by positivity)]
    _ ↔ (2 * (n : ℝ) - 1) * fs ≤ 2 * ftabExact fs i * fs := pow_le_pow_iff_left₀ hleft hright (by decide)
    _ ↔ (n : ℝ) - 1 / 2 ≤ ftabExact fs i := by
        rw [mul_le_mul_iff_left₀ hfs']
        constructor <;> intro h <;> linarith

/-- The positive numbers that fit are those up to the rounded closed form. -/
theorem ftabFits_iff_le_floor {fs n : Nat} (hfs : 0 < fs) (hn : 1 ≤ n) (i : Nat) :
    ftabFits fs i n = true ↔ n ≤ ⌊ftabExact fs i + 1 / 2⌋₊ := by
  have hexact := ftabExact_nonneg fs i
  rw [ftabFits_iff_le_ftabExact hfs hn, Nat.le_floor_iff (by positivity), sub_le_iff_le_add]

/-- One bit of the search. Both sides are unfolded first: to compare them folded, the kernel would evaluate the powers. -/
theorem ftabSearch_succ (fs i k acc : Nat) :
    ftabSearch fs i (k + 1) acc =
      ftabSearch fs i k (if ftabFits fs i (acc + 2 ^ k) then acc + 2 ^ k else acc) := by
  delta ftabSearch
  rfl

/-- The search finds the last number that fits, from any start at most `2^k - 1` below it. -/
theorem ftabSearch_eq_of_fits_iff {fs i m : Nat} (hfits : ∀ n, 1 ≤ n → (ftabFits fs i n = true ↔ n ≤ m)) {k acc : Nat}
    (hle : acc ≤ m) (hlt : m < acc + 2 ^ k) : ftabSearch fs i k acc = m := by
  induction k generalizing acc with
  | zero => exact Nat.le_antisymm hle (Nat.lt_succ_iff.mp hlt)
  | succ k ih =>
    have hpos : 0 < 2 ^ k := Nat.two_pow_pos k
    rw [Nat.pow_succ] at hlt
    rw [ftabSearch_succ]
    by_cases hbit : acc + 2 ^ k ≤ m
    · rw [if_pos ((hfits _ (by omega)).mpr hbit)]
      exact ih hbit (by omega)
    · rw [if_neg (mt (hfits _ (by omega)).mp hbit)]
      exact ih hle (by omega)

/-- The comparison is easier for a slower sampling rate and a higher note. -/
theorem ftabFits_mono {fs fs' i i' n : Nat} (hfs : fs ≤ fs') (hi : i' ≤ i) (h : ftabFits fs' i' n = true) :
    ftabFits fs i n = true := by
  simp only [ftabFits, decide_eq_true_iff] at h ⊢
  calc ((2 * n - 1) * fs) ^ 12 * 2 ^ 69
      ≤ ((2 * n - 1) * fs') ^ 12 * 2 ^ 69 := by gcongr
    _ ≤ (2 ^ 33 * 440) ^ 12 * 2 ^ i' := h
    _ ≤ (2 ^ 33 * 440) ^ 12 * 2 ^ i := by gcongr; exact one_le_two

/-- `NYQ_FTW` fits no note at a legal rate: it does not fit the highest note at the slowest one. -/
theorem not_ftabFits_nyquist {fs i : Nat} (hfs : 25088 ≤ fs) (hi : i < 128) : ¬ ftabFits fs i (2 ^ 31) = true := by
  have hworst : ¬ ftabFits 25088 127 (2 ^ 31) = true := by decide
  exact mt (ftabFits_mono hfs (Nat.le_of_lt_succ hi)) hworst

section
variable {fs i : Nat} (hfs : 25088 ≤ fs) (hi : i < 128)
include hfs hi

/-- The rounded closed form of a legal block is a legal tuning word. -/
theorem floor_ftabExact_lt : ⌊ftabExact fs i + 1 / 2⌋₊ < 2 ^ 31 :=
  Nat.lt_of_not_le (mt (ftabFits_iff_le_floor (by omega) (by decide) i).mpr (not_ftabFits_nyquist hfs hi))

/-- The ROM entry is the rounded closed form, as the natural number `⌊x + 1/2⌋`. -/
theorem ftabRom_toNat : (ftabRom fs i).toNat = ⌊ftabExact fs i + 1 / 2⌋₊ := by
  have hlt := floor_ftabExact_lt hfs hi
  rw [ftabRom, ftabSearch_eq_of_fits_iff (fun n hn => ftabFits_iff_le_floor (by omega) hn i) (Nat.zero_le _) (by omega)]
  exact Nat.mod_eq_of_lt (by omega)

/-- The ROM entry is `round` of the closed form; as that is not negative, rounding a tie up rounds it away from zero. -/
theorem ftabRom_eq_round : ((ftabRom fs i).toNat : Int) = round (ftabExact fs i) := by
  have hexact := ftabExact_nonneg fs i
  rw [ftabRom_toNat hfs hi, round_eq, Int.natCast_floor_eq_floor (by positivity)]

/-- A bound on a ROM entry from below is one comparison of integers. -/
theorem le_ftabRom_iff {n : Nat} (hn : 1 ≤ n) : n ≤ (ftabRom fs i).toNat ↔ ftabFits fs i n = true := by
  rw [ftabRom_toNat hfs hi, ftabFits_iff_le_floor (by omega) hn]

/-- A ROM entry of a legal block is at most `FTW_MAX`. -/
theorem ftabRom_le_ftwMax : (ftabRom fs i).toNat ≤ ftwMax := by
  have hlt := floor_ftabExact_lt hfs hi
  rw [← ftabRom_toNat hfs hi] at hlt
  exact Nat.le_pred_of_lt hlt

end

/-- The lowest entry of a legal block is at least the one of the fastest block. -/
theorem ftabRom_zero_ge {fs : Nat} (hlow : 25088 ≤ fs) (hhigh : fs ≤ 192000) : 182890 ≤ (ftabRom fs 0).toNat := by
  have hfastest : ftabFits 192000 0 182890 = true := by decide
  exact (le_ftabRom_iff hlow (by decide) (by decide)).mpr (ftabFits_mono hhigh le_rfl hfastest)

/-- A block with illegal parameters is refused at every step (93 U11). -/
theorem step_of_not_legal {s : State} (h : ¬ s.cfg.Legal) : step s = .refused .illegalConfiguration :=
  if_neg h

/-- Settles O43: the bit-by-bit search ends at the last `n` whose comparison of integers holds, and that comparison is
`n - 1/2 ≤ ftabExact`, cleared of its fractions and its twelfth root. -/
theorem ftabIsRoundedClosedForm : Obligations.FtabIsRoundedClosedForm := by
  refine ⟨?rounded, ?ends, ?refused⟩
  case rounded =>
    intro fs i hlow _ hi
    rw [← ftabExact_eq_semitones_above_reference]
    exact ⟨ftabRom_eq_round hlow hi, ftabRom_eq_round hlow hi⟩
  case ends => exact fun fs hlow hhigh => ⟨ftabRom_le_ftwMax hlow (by decide), ftabRom_zero_ge hlow hhigh⟩
  case refused =>
    exact fun s hrate => step_of_not_legal fun ⟨_, _, hlow, hhigh⟩ => by omega

/-- Settles O44: a closed fact, the model's own search evaluated at each of the 128 entries. -/
theorem ftabDefaultTable : Obligations.FtabDefaultTable := by
  unfold Obligations.FtabDefaultTable
  decide +kernel

end Sys2Proof.Machine

namespace Sys2Proof

/-! ### The FTAB window (R145) -/

/-- A field of a key below the write bit is that field of its offset. -/
theorem keyOffset_extractLsb' {start len : Nat} (k : Key) (h : start + len ≤ 12) :
    (keyOffset k).extractLsb' start len = k.extractLsb' start len :=
  BitVec.extractLsb'_extractLsb'_of_le h

/-- A key is aligned when its two low bits are zero (R74). -/
theorem key_aligned_iff (k : Key) : k.extractLsb' 0 2 = 0#2 ↔ k.toNat % 4 = 0 := by
  rw [← keyOffset_extractLsb' k (by decide), keyOffset_aligned_iff]

/-- A field that a row's mask covers (R107) is the field of the row's match in every key of the row. -/
theorem extractLsb'_of_key_row {k m q : Key} (h : k &&& m = q) {start len : Nat}
    (hm : m.extractLsb' start len = BitVec.allOnes len) : k.extractLsb' start len = q.extractLsb' start len := by
  rw [← h, BitVec.extractLsb'_and, hm, BitVec.and_allOnes]

/-- The fields of the match of an FTAB row (R107): the low bits, the window and the write bit. -/
theorem fields_of_ftab_match (w : BitVec 1) :
    (w ++ 0x400#12).extractLsb' 0 2 = 0#2 ∧ (w ++ 0x400#12).extractLsb' 9 3 = 0b010#3 ∧
      (w ++ 0x400#12).extractLsb' 12 1 = w := by
  revert w; decide

/-- A key of an FTAB row (R107) is aligned, lies in the FTAB window and has the row's write bit. -/
theorem fields_of_ftab_key {w : BitVec 1} {k : Key} (h : k &&& 0x1E03#13 = w ++ 0x400#12) :
    k.toNat % 4 = 0 ∧ k.extractLsb' 9 3 = 0b010#3 ∧ keyWrites k = w.getLsbD 0 := by
  obtain ⟨hlow, hwindow, htop⟩ := fields_of_ftab_match w
  refine ⟨(key_aligned_iff k).mp ?aligned, ?window, ?direction⟩
  case aligned => exact (extractLsb'_of_key_row h rfl).trans hlow
  case window => exact (extractLsb'_of_key_row h rfl).trans hwindow
  case direction =>
    rw [← htop, ← extractLsb'_of_key_row h rfl, BitVec.getLsbD_extractLsb']
    rfl

/-- A key of the FTAB window selects the entry its bits 8:2 name (R71). -/
theorem regAt_of_ftab_window {k : Key} (h : k.extractLsb' 9 3 = 0b010#3) :
    regAt (keyOffset k) = some (.ftab (k.extractLsb' 2 7)) := by
  rw [regAt, keyOffset_extractLsb' k (by decide), if_pos h, keyOffset_extractLsb' k (by decide)]

/-- A key of an FTAB row is decoded to an access to the entry its bits 8:2 name. -/
theorem decode_of_ftab_key {w : BitVec 1} {k : Key} (h : k &&& 0x1E03#13 = w ++ 0x400#12) (d : Word) :
    decode k d = if w.getLsbD 0 then .ok (.wrRoFtab (k.extractLsb' 2 7) d) else .ok (.rdFtab (k.extractLsb' 2 7)) := by
  obtain ⟨haligned, hwindow, hwrites⟩ := fields_of_ftab_key h
  rw [decode_of_regAt_some haligned (regAt_of_ftab_window hwindow), hwrites]
  rfl

end Sys2Proof

namespace Sys2Proof.Machine

/-- A read of an entry answers the ROM's value and changes nothing else (R145). -/
theorem exec_rdFtab (i : BitVec 7) (s : State) :
    exec (.rdFtab i) s = .next { s with reads := s.reads ++ [ftabRom s.cfg.fs i.toNat] } := rfl

/-- Settles O18: the decoder looks at the alignment first, and in the FTAB window at nothing but the index after it. -/
theorem ftabReads : Obligations.FtabReads := by
  refine ⟨fun s i => exec_rdFtab i s, ?read, ?misaligned, ?write⟩
  case read => exact fun k d hk => decode_of_ftab_key (w := 0#1) hk d
  case misaligned => exact fun k d _ hlow => decode_of_misaligned (mt (key_aligned_iff k).mpr hlow) d
  case write => exact fun k d hk => decode_of_ftab_key (w := 1#1) hk d

end Sys2Proof.Machine

namespace Sys2Proof.Machine

/-! ### The range of the two tables (R6, R172, R173) -/

/-- What holds of every entry of a list and of the default holds of every entry looked up. -/
theorem getD_of_forall_mem {α : Type} {p : α → Prop} {l : List α} {d : α} (hl : ∀ x ∈ l, p x) (hd : p d) (i : Nat) :
    p (l.getD i d) := by
  rcases lt_or_ge i l.length with hi | hi
  · rw [List.getD_eq_getElem l d hi]
    exact hl _ (List.getElem_mem hi)
  · rwa [List.getD_eq_default l d hi]

/-- Every entry of the quarter table has magnitude at most `AMP_MAX`, and so has the 0 looked up past its end. -/
theorem abs_cosQuarter_le (i : Nat) : |cosQuarter i| ≤ ampMax := by
  have hrows : ∀ row ∈ cosRows, ∀ x ∈ row, |x| ≤ ampMax := by decide
  have hrow : ∀ x ∈ cosRows.getD (i / 16) [], |x| ≤ ampMax :=
    getD_of_forall_mem (p := fun row => ∀ x ∈ row, |x| ≤ ampMax) hrows (List.forall_mem_nil _) _
  exact getD_of_forall_mem hrow (by decide) _

/-- The symmetries only change the sign of an entry of the quarter table. -/
theorem abs_cosTable_le (i : Nat) : |cosTable i| ≤ ampMax := by
  unfold cosTable
  split_ifs <;> simp only [abs_neg, abs_cosQuarter_le]

/-- The sine table is the cosine table shifted (R173). -/
theorem abs_sinTable_le (i : Nat) : |sinTable i| ≤ ampMax := abs_cosTable_le _

/-! ### One oscillator over time (R174, R177, R179) -/

/-- The index of R174 is the phase without its low 22 bits. -/
theorem Osc.index_eq (o : Osc) : o.index = o.phase.toNat / 2 ^ 22 := by
  have hphase := o.phase.isLt
  rw [Osc.index, BitVec.extractLsb'_toNat, Nat.shiftRight_eq_div_pow, Nat.mod_eq_of_lt (by omega)]

/-- The oscillator `n` samples later, its tuning word unchanged (R179). -/
def Osc.advance (n : Nat) (o : Osc) : Osc := ⟨o.ftw, o.phase + BitVec.ofNat 32 n * o.ftw⟩

/-- No sample has passed. -/
@[simp] theorem Osc.advance_zero (o : Osc) : o.advance 0 = o := by
  simp [Osc.advance]

/-- A tick advances the oscillator by one sample. -/
@[simp] theorem Osc.advance_tick (n : Nat) (o : Osc) : o.tick.1.advance n = o.advance (n + 1) := by
  have hphase : o.phase + o.ftw + BitVec.ofNat 32 n * o.ftw = o.phase + BitVec.ofNat 32 (n + 1) * o.ftw := by
    rw [BitVec.ofNat_add, BitVec.add_mul, BitVec.one_mul, BitVec.add_assoc, BitVec.add_comm o.ftw]
  exact congrArg (Osc.mk o.ftw) hphase

/-- The phase after `n` samples is `p0 + n*w` (R179). -/
theorem Osc.advance_eq (n : Nat) (o : Osc) :
    o.advance n = ⟨o.ftw, BitVec.ofNat 32 (o.phase.toNat + n * o.ftw.toNat)⟩ := by
  rw [Osc.advance, BitVec.ofNat_add, BitVec.ofNat_mul, BitVec.ofNat_toNat, BitVec.ofNat_toNat, BitVec.setWidth_eq,
    BitVec.setWidth_eq]

/-- The table index of the phase `p0 + n*w` (R174, R179). -/
theorem Osc.index_advance (n : Nat) (o : Osc) :
    (o.advance n).index = (o.phase.toNat + n * o.ftw.toNat) % 2 ^ 32 / 2 ^ 22 := by
  rw [Osc.index_eq, Osc.advance_eq, BitVec.toNat_ofNat]

/-- One sample, then the others. -/
theorem Osc.steps_succ (n : Nat) (o : Osc) :
    Osc.steps (n + 1) o =
      ((Osc.steps n o.tick.1).1, cosTable o.index :: (Osc.steps n o.tick.1).2.1,
        sinTable o.index :: (Osc.steps n o.tick.1).2.2) := rfl

/-- A run outputs the table entries of the oscillator at each of its samples and ends `n` samples later (R178). -/
theorem Osc.steps_eq (n : Nat) (o : Osc) :
    Osc.steps n o =
      (o.advance n, (List.range n).map (fun k => cosTable (o.advance k).index),
        (List.range n).map (fun k => sinTable (o.advance k).index)) := by
  induction n generalizing o with
  | zero => rw [Osc.advance_zero]; rfl
  | succ n ih =>
    rw [Osc.steps_succ, ih]
    simp [List.range_succ_eq_map, Function.comp_def]

/-- Settles O47: a run is known sample by sample, and every table entry has magnitude at most `AMP_MAX`. -/
theorem oscillatorClosedForm : Obligations.OscillatorClosedForm := by
  intro n o
  refine ⟨?closedForm, ?boundA, ?boundB⟩
  case closedForm =>
    rw [Osc.steps_eq, Osc.advance_eq]
    simp only [Osc.index_advance]
  case boundA =>
    rw [Osc.steps_eq]
    exact List.forall_mem_map.mpr fun k _ => abs_cosTable_le _
  case boundB =>
    rw [Osc.steps_eq]
    exact List.forall_mem_map.mpr fun k _ => abs_sinTable_le _

/-- A tick outputs both channels at the phase before the advance (R174). -/
theorem Osc.tick_eq (o : Osc) :
    o.tick = (⟨o.ftw, o.phase + o.ftw⟩, cosTable (o.phase.toNat / 2 ^ 22), sinTable (o.phase.toNat / 2 ^ 22)) := by
  rw [← Osc.index_eq]
  rfl

/-- Settles O46: a tick's phase is a sum of words, which wraps, and a retune leaves the phase a tick reads as it is. -/
theorem oscillatorTick : Obligations.OscillatorTick := by
  refine ⟨?tick, ?retune, ?reset⟩
  case tick =>
    intro o
    have hwrap : BitVec.ofNat 32 ((o.phase.toNat + o.ftw.toNat) % 2 ^ 32) = o.phase + o.ftw := by
      rw [← BitVec.toNat_add, BitVec.ofNat_toNat, BitVec.setWidth_eq]
    rw [Osc.tick_eq, hwrap]
  case retune => exact fun o w => ⟨rfl, Osc.tick_eq (o.setFreq w)⟩
  case reset => exact fun c => ⟨rfl, rfl⟩

end Sys2Proof.Machine

namespace Sys2Proof.Machine

/-! ### Phase entries (R203 to R207) -/

/-- The increment of R203, with Lean's division toward zero. -/
theorem rampInc_eq (start target : Level) (n : Word) :
    rampInc start target n = BitVec.ofInt 26 (((target.toNat : Int) - start.toNat).tdiv n.toNat) := by
  rw [rampInc, truncDiv_eq_tdiv]

section
variable {st : Settings}

/-- A Decay of at least one sample starts from ONE, with the level it finds (R205). -/
theorem Env.enterDecay_of_ne_zero (h : st.decay ≠ 0) (e : Env) :
    e.enterDecay st = ⟨.decay, e.level, 0, st.decay, st.sustain,
      BitVec.ofInt 26 (((st.sustain.toNat : Int) - 16777216).tdiv st.decay.toNat)⟩ := by
  rw [Env.enterDecay, rampEnter_pos _ _ _ h, rampInc_eq]
  rfl

/-- A zero-length Decay is skipped to Sustain (R204, R205). -/
theorem Env.enterDecay_of_zero (h : st.decay = 0) (e : Env) :
    e.enterDecay st = ⟨.sustain, st.sustain, 0, 0, st.sustain, 0⟩ := by
  rw [Env.enterDecay, rampEnter_zero _ _ _ h]
  rfl

/-- An Attack of at least one sample starts from the current level (R206). -/
theorem Env.press_of_attack_ne_zero (h : st.attack ≠ 0) (e : Env) :
    e.press st = ⟨.attack, e.level, 0, st.attack, 0x1000000#25,
      BitVec.ofInt 26 ((16777216 - (e.level.toNat : Int)).tdiv st.attack.toNat)⟩ := by
  rw [Env.press, Env.enterAttack, rampEnter_pos _ _ _ h, rampInc_eq]
  rfl

/-- A zero-length Attack is skipped to a Decay that finds the level ONE (R206). -/
theorem Env.press_of_attack_zero (h : st.attack = 0) (e : Env) :
    e.press st = Env.enterDecay st ⟨e.phase, 0x1000000#25, 0, 0, 0x1000000#25, 0⟩ := by
  rw [Env.press, Env.enterAttack, rampEnter_zero _ _ _ h]
  rfl

/-- In Idle a release changes nothing (R207). -/
theorem Env.release_of_idle {e : Env} (h : e.phase = .idle) (st : Settings) : e.release st = e :=
  if_pos h

/-- Outside Idle a Release of at least one sample starts from the current level (R207). -/
theorem Env.release_of_ne_zero {e : Env} (he : e.phase ≠ .idle) (h : st.release ≠ 0) :
    e.release st = ⟨.release, e.level, 0, st.release, 0,
      BitVec.ofInt 26 ((-(e.level.toNat : Int)).tdiv st.release.toNat)⟩ := by
  have hfall : ((0 : Level).toNat : Int) - e.level.toNat = -(e.level.toNat : Int) := Int.zero_sub _
  rw [Env.release, if_neg he, Env.enterRelease, rampEnter_pos _ _ _ h, rampInc_eq, hfall]

/-- Outside Idle a zero-length Release is skipped to Idle (R207). -/
theorem Env.release_of_zero {e : Env} (he : e.phase ≠ .idle) (h : st.release = 0) :
    e.release st = ⟨.idle, 0, 0, 0, 0, 0⟩ := by
  rw [Env.release, if_neg he, Env.enterRelease, rampEnter_zero _ _ _ h]
  rfl

end

/-- In Idle a sample is 0 (R208). -/
theorem Env.step_of_idle {e : Env} (h : e.phase = .idle) (st : Settings) : e.step st = (e, 0) := by
  simp only [Env.step, h]

/-- In Sustain a sample is the level (R208). -/
theorem Env.step_of_sustain {e : Env} (h : e.phase = .sustain) (st : Settings) : e.step st = (e, e.level) := by
  simp only [Env.step, h]

/-- Settles O55: with no lengths a press is skipped to Sustain and a release to Idle, and neither phase's sample moves
the level. -/
theorem zeroLengthPhases : Obligations.ZeroLengthPhases := by
  intro st e hattack hdecay hrelease hsustain
  have hpress : e.press st = ⟨.sustain, 0x1000000#25, 0, 0, 0x1000000#25, 0⟩ := by
    rw [Env.press_of_attack_zero hattack, Env.enterDecay_of_zero hdecay, hsustain]
  rw [hpress]
  refine ⟨rfl, rfl, rfl, fun hlevel => ?released⟩
  by_cases hidle : e.phase = .idle
  · rw [Env.release_of_idle hidle, Env.step_of_idle hidle]
    exact ⟨hidle, hlevel hidle, rfl⟩
  · rw [Env.release_of_zero hidle hrelease]
    exact ⟨rfl, rfl, rfl⟩

/-! ### PRESS and RELEASE (R282 to R285) -/

/-- The index of a note is its low seven bits. -/
theorem noteIndex_eq_setWidth (note : BitVec 8) : noteIndex note = note.setWidth 7 :=
  (BitVec.setWidth_eq_extractLsb' (by decide)).symm

/-- The index of a legal note is the note. -/
theorem noteIndex_toNat {note : BitVec 8} (h : note.toNat < 128) : (noteIndex note).toNat = note.toNat := by
  rw [noteIndex_eq_setWidth, BitVec.toNat_setWidth]
  exact Nat.mod_eq_of_lt h

/-- PRESS of a legal note is `CmdPress` (R282). -/
theorem exec_press {note : BitVec 8} (h : note.toNat < 128) (s : State) :
    exec (.press note) s = .next (s.cmdPress (noteIndex note)) :=
  if_pos h

/-- RELEASE of a legal note is `CmdRelease` (R284). -/
theorem exec_release {note : BitVec 8} (h : note.toNat < 128) (s : State) :
    exec (.release note) s = .next (s.cmdRelease (noteIndex note)) :=
  if_pos h

/-- RELEASE of the current note releases the envelope (R285). -/
theorem State.cmdRelease_curNote {s : State} {n : BitVec 7} (h : n = s.curNote) :
    s.cmdRelease n = { s with env := s.env.release s.settings } :=
  if_pos h

/-- RELEASE of another note is dropped (R284). -/
theorem State.cmdRelease_of_ne {s : State} {n : BitVec 7} (h : n ≠ s.curNote) : s.cmdRelease n = s :=
  if_neg h

/-- Settles O2: the three cases of the envelope are the first phase of Attack, Decay and Sustain that is not skipped. -/
theorem pressRetunesAndEntersAttack : Obligations.PressRetunesAndEntersAttack := by
  intro s note hnote
  rw [exec_press hnote, State.cmdPress, State.voicePress, noteIndex_toNat hnote, noteIndex_eq_setWidth]
  by_cases hattack : s.settings.attack = 0
  · rw [Env.press_of_attack_zero hattack, if_neg (not_not.mpr hattack)]
    by_cases hdecay : s.settings.decay = 0
    · rw [Env.enterDecay_of_zero hdecay, if_neg (not_not.mpr hdecay)]
      rfl
    · rw [Env.enterDecay_of_ne_zero hdecay, if_pos hdecay]
      rfl
  · rw [Env.press_of_attack_ne_zero hattack, if_pos hattack]
    rfl

/-- Settles O3: the command looks at the note, then the envelope at its phase and at the length. -/
theorem releaseActsOnCurrentNoteOnly : Obligations.ReleaseActsOnCurrentNoteOnly := by
  intro s note hnote
  rw [exec_release hnote, noteIndex_eq_setWidth]
  by_cases hcurrent : note.setWidth 7 = s.curNote
  · rw [State.cmdRelease_curNote hcurrent]
    by_cases hidle : s.env.phase = .idle
    · rw [Env.release_of_idle hidle, if_neg (fun h => h.2 hidle)]
    · rw [if_pos ⟨hcurrent, hidle⟩]
      by_cases hrelease : s.settings.release = 0
      · rw [Env.release_of_zero hidle hrelease, if_neg (not_not.mpr hrelease)]
      · rw [Env.release_of_ne_zero hidle hrelease, if_pos hrelease]
  · rw [State.cmdRelease_of_ne hcurrent, if_neg (fun h => hcurrent h.1)]

/-! ### One sample of a ramp (R202, R208) -/

section
variable (st : Settings) {e : Env}

/-- After Attack comes Decay (R202). -/
theorem Env.enterNext_of_attack (h : e.phase = .attack) : e.enterNext st = e.enterDecay st := by
  simp only [Env.enterNext, h]

/-- After Decay comes Sustain (R202). -/
theorem Env.enterNext_of_decay (h : e.phase = .decay) : e.enterNext st = e.enterSustain := by
  simp only [Env.enterNext, h]

/-- After Release comes Idle (R202). -/
theorem Env.enterNext_of_release (h : e.phase = .release) : e.enterNext st = e.enterIdle := by
  simp only [Env.enterNext, h]

/-- Before its last sample a ramp counts up and adds its increment, as long as the sum is a level (R208). -/
theorem Env.step_inner {l : Level} (hramp : e.phase.isRamp = true) (hcount : e.count.toNat + 1 < e.len.toNat)
    (hl : (l.toNat : Int) = e.level.toNat + e.inc.toInt) :
    e.step st = ({ e with count := e.count + 1, level := l }, l) := by
  have hinner : e.count + 1 ≠ e.len := by bv_omega
  have hlevel : BitVec.ofInt 25 ((e.level.toNat : Int) + e.inc.toInt) = l := by
    rw [← hl, BitVec.ofInt_natCast, BitVec.ofNat_toNat, BitVec.setWidth_eq]
  rw [Env.step_of_isRamp st hramp, Env.rampStep_inner st hinner, hlevel]

/-- A ramp whose last sample has taken it to its target (R208). -/
def Env.completed (e : Env) : Env := { e with count := e.count + 1, level := e.target }

/-- The last sample itself is still in the ramp's phase (R208). -/
@[simp] theorem Env.completed_phase (e : Env) : e.completed.phase = e.phase := rfl

/-- The last sample of a ramp returns the target and enters the next phase from it (R208). -/
theorem Env.step_last (hramp : e.phase.isRamp = true) (hcount : e.count.toNat + 1 = e.len.toNat) :
    e.step st = (e.completed.enterNext st, e.target) := by
  have hlast : e.count + 1 = e.len := by bv_omega
  rw [Env.step_of_isRamp st hramp, Env.rampStep_last st hlast, Env.completed]

end

/-- The phases that are no ramps (R200). -/
theorem Phase.idle_or_sustain_of_not_isRamp {p : Phase} (h : ¬ p.isRamp = true) : p = .idle ∨ p = .sustain := by
  cases p with
  | idle => exact .inl rfl
  | sustain => exact .inr rfl
  | attack | decay | release => exact absurd rfl h

/-- The count has not passed the length, and in a ramp has not reached it (R34, R208). -/
def Env.CountWithinLen (e : Env) : Prop :=
  e.count.toNat ≤ e.len.toNat ∧ (e.phase.isRamp = true → e.count.toNat < e.len.toNat)

/-- A phase that is no ramp starts with a count within its length. -/
theorem Env.countWithinLen_of_count_zero {e : Env} (hcount : e.count = 0) (hphase : e.phase.isRamp = false) :
    e.CountWithinLen := by
  refine ⟨?le, fun hramp => ?lt⟩
  case le => rw [hcount]; exact Nat.zero_le _
  case lt => rw [hphase] at hramp; cases hramp

/-- Decay is entered with a count of 0, and as a ramp only for a length of at least 1. -/
theorem Env.countWithinLen_enterDecay (st : Settings) (e : Env) : (e.enterDecay st).CountWithinLen := by
  by_cases hdecay : st.decay = 0
  · rw [Env.enterDecay_of_zero hdecay]
    exact Env.countWithinLen_of_count_zero rfl rfl
  · rw [Env.enterDecay_of_ne_zero hdecay]
    have hpos : 0 < st.decay.toNat := by bv_omega
    exact ⟨Nat.zero_le _, fun _ => hpos⟩

/-- The phase after a ramp starts with a count within its length. -/
theorem Env.countWithinLen_enterNext (st : Settings) {e : Env} (hramp : e.phase.isRamp = true) :
    (e.enterNext st).CountWithinLen := by
  cases hphase : e.phase with
  | attack => rw [Env.enterNext_of_attack st hphase]; exact e.countWithinLen_enterDecay st
  | decay => rw [Env.enterNext_of_decay st hphase]; exact Env.countWithinLen_of_count_zero rfl rfl
  | release => rw [Env.enterNext_of_release st hphase]; exact Env.countWithinLen_of_count_zero rfl rfl
  | idle | sustain => rw [hphase] at hramp; cases hramp

/-- The phase after a ramp is another one (R202). -/
theorem Env.phase_enterNext_ne (st : Settings) {e : Env} (hramp : e.phase.isRamp = true) :
    (e.enterNext st).phase ≠ e.phase := by
  cases hphase : e.phase with
  | attack =>
    rw [Env.enterNext_of_attack st hphase]
    by_cases hdecay : st.decay = 0
    · rw [Env.enterDecay_of_zero hdecay]; nofun
    · rw [Env.enterDecay_of_ne_zero hdecay]; nofun
  | decay => rw [Env.enterNext_of_decay st hphase]; nofun
  | release => rw [Env.enterNext_of_release st hphase]; nofun
  | idle | sustain => rw [hphase] at hramp; cases hramp

/-- A sample keeps the count within the length (R208). -/
theorem Env.CountWithinLen.step {e : Env} (h : e.CountWithinLen) (st : Settings) : (e.step st).1.CountWithinLen := by
  obtain ⟨hle, hlt⟩ := h
  by_cases hramp : e.phase.isRamp = true
  · have hcount := hlt hramp
    rw [Env.step_of_isRamp st hramp]
    by_cases hlast : e.count + 1 = e.len
    · rw [Env.rampStep_last st hlast]
      exact Env.countWithinLen_enterNext st hramp
    · rw [Env.rampStep_inner st hlast]
      have hinner : (e.count + 1).toNat < e.len.toNat := by bv_omega
      exact ⟨hinner.le, fun _ => hinner⟩
  · rw [Env.step_hold st (Phase.idle_or_sustain_of_not_isRamp hramp)]
    exact ⟨hle, hlt⟩

/-- Settles O52: a sample of each phase, the last sample of each ramp by the phase that comes next. -/
theorem envelopeSample : Obligations.EnvelopeSample := by
  intro st e
  refine ⟨fun h => Env.step_of_idle h st, fun h => Env.step_of_sustain h st, fun _ => Env.step_inner st,
    fun hcount => ⟨?decay, ?release, ?attack, ?attackSkip⟩,
    fun hle hlt => Env.CountWithinLen.step ⟨hle, hlt⟩ st⟩
  case decay =>
    intro h
    rw [Env.step_last st (by rw [h]; rfl) hcount, Env.enterNext_of_decay st (e.completed_phase.trans h)]
    rfl
  case release =>
    intro h
    rw [Env.step_last st (by rw [h]; rfl) hcount, Env.enterNext_of_release st (e.completed_phase.trans h)]
    rfl
  case attack =>
    intro h hdecay
    rw [Env.step_last st (by rw [h]; rfl) hcount, Env.enterNext_of_attack st (e.completed_phase.trans h),
      Env.enterDecay_of_ne_zero hdecay]
    rfl
  case attackSkip =>
    intro h hdecay
    rw [Env.step_last st (by rw [h]; rfl) hcount, Env.enterNext_of_attack st (e.completed_phase.trans h),
      Env.enterDecay_of_zero hdecay]

/-! ### The trajectory of a ramp (R209, R213) -/

/-- `k` of `n` increments toward a target at or above the start do not pass it (R213). -/
theorem mul_tdiv_nonneg_and_le {d : Int} {k n : Nat} (hd : 0 ≤ d) (hk : k ≤ n) :
    0 ≤ (k : Int) * d.tdiv n ∧ (k : Int) * d.tdiv n ≤ d := by
  have hinc : 0 ≤ d.tdiv n := Int.tdiv_nonneg hd (Int.natCast_nonneg n)
  refine ⟨mul_nonneg (Int.natCast_nonneg k) hinc, ?_⟩
  calc (k : Int) * d.tdiv n
      ≤ n * d.tdiv n := by gcongr
    _ ≤ d := Int.mul_tdiv_self_le hd

/-- The level after `k` samples of a ramp, `S + k*I` (R209). -/
def rampLevel (start target : Level) (n : Word) (k : Nat) : Int :=
  start.toNat + k * ((target.toNat : Int) - start.toNat).tdiv n.toNat

section
variable {start target : Level} {n : Word} {k : Nat}

/-- A rising ramp stays between its start and its target (R213). -/
theorem rampLevel_rising (h : start.toNat ≤ target.toNat) (hk : k ≤ n.toNat) :
    (start.toNat : Int) ≤ rampLevel start target n k ∧ rampLevel start target n k ≤ target.toNat := by
  have hinc := mul_tdiv_nonneg_and_le (d := (target.toNat : Int) - start.toNat) (by omega) hk
  unfold rampLevel
  omega

/-- A falling ramp stays between its target and its start (R213). -/
theorem rampLevel_falling (h : target.toNat ≤ start.toNat) (hk : k ≤ n.toNat) :
    (target.toNat : Int) ≤ rampLevel start target n k ∧ rampLevel start target n k ≤ start.toNat := by
  have hdown : (target.toNat : Int) - start.toNat = -((start.toNat : Int) - target.toNat) := (Int.neg_sub _ _).symm
  have hinc := mul_tdiv_nonneg_and_le (d := (start.toNat : Int) - target.toNat) (by omega) hk
  rw [rampLevel, hdown, Int.neg_tdiv, Int.mul_neg]
  omega

/-- The level of a ramp fits its register (R213). -/
theorem rampLevel_toNat (hk : k ≤ n.toNat) :
    ((BitVec.ofInt 25 (rampLevel start target n k)).toNat : Int) = rampLevel start target n k := by
  have hrange : 0 ≤ rampLevel start target n k ∧ rampLevel start target n k < 2 ^ 25 := by
    rcases le_total start.toNat target.toNat with h | h
    · have := rampLevel_rising h hk
      omega
    · have := rampLevel_falling h hk
      omega
  rw [BitVec.toNat_ofInt]
  omega

/-- The increment between two legal levels fits its register (R203). -/
theorem rampInc_toInt (hstart : start.toNat ≤ 16777216) (htarget : target.toNat ≤ 16777216) :
    (rampInc start target n).toInt = ((target.toNat : Int) - start.toNat).tdiv n.toNat := by
  have hinc := Int.natAbs_tdiv_le_natAbs ((target.toNat : Int) - start.toNat) n.toNat
  rw [rampInc_eq, BitVec.toInt_ofInt_eq_self (by decide)] <;> omega

/-- One more sample, one more increment. -/
theorem rampLevel_succ :
    rampLevel start target n (k + 1) =
      rampLevel start target n k + ((target.toNat : Int) - start.toNat).tdiv n.toNat := by
  rw [rampLevel, rampLevel, Nat.cast_succ, Int.add_mul, Int.one_mul, Int.add_assoc]

end

/-- The envelope `k` samples into a ramp (R209). -/
def Env.inRamp (ph : Phase) (start target : Level) (n : Word) (k : Nat) : Env :=
  ⟨ph, BitVec.ofInt 25 (rampLevel start target n k), BitVec.ofNat 32 k, n, target, rampInc start target n⟩

/-- A ramp begins with no sample taken. -/
theorem Env.inRamp_zero (ph : Phase) (start target : Level) (n : Word) :
    Env.inRamp ph start target n 0 = Env.atRampStart ph start target n := by
  simp [Env.inRamp, Env.atRampStart, rampLevel]

/-- The count `k` samples into a ramp is `k`. -/
theorem Env.inRamp_count_toNat {k : Nat} {n : Word} (hk : k < n.toNat) (ph : Phase) (start target : Level) :
    (Env.inRamp ph start target n k).count.toNat = k :=
  Nat.mod_eq_of_lt (hk.trans n.isLt)

section
variable (st : Settings) {ph : Phase} {start target : Level} {n : Word} {k : Nat}
  (hramp : ph.isRamp = true) (hstart : start.toNat ≤ 16777216) (htarget : target.toNat ≤ 16777216)
include hramp hstart htarget

/-- A sample of a ramp before its last one. -/
theorem Env.step_inRamp (hk : k + 1 < n.toNat) :
    (Env.inRamp ph start target n k).step st =
      (Env.inRamp ph start target n (k + 1), BitVec.ofInt 25 (rampLevel start target n (k + 1))) := by
  have hcount := Env.inRamp_count_toNat (n := n) (Nat.lt_of_succ_lt hk) ph start target
  have hlevel : ((BitVec.ofInt 25 (rampLevel start target n (k + 1))).toNat : Int) =
      (Env.inRamp ph start target n k).level.toNat + (Env.inRamp ph start target n k).inc.toInt := by
    rw [Env.inRamp, rampLevel_toNat hk.le, rampLevel_toNat (Nat.lt_of_succ_lt hk).le, rampInc_toInt hstart htarget,
      rampLevel_succ]
  rw [Env.step_inner st hramp (by rwa [hcount]) hlevel, Env.inRamp, Env.inRamp, BitVec.ofNat_add]
  rfl

/-- Before its last sample a ramp is as far as the samples taken (R209). -/
theorem Env.after_atRampStart (hk : k < n.toNat) :
    (Env.atRampStart ph start target n).after st k = Env.inRamp ph start target n k := by
  induction k with
  | zero => exact (Env.inRamp_zero ph start target n).symm
  | succ k ih => rw [Env.after_succ, ih (Nat.lt_of_succ_lt hk), Env.step_inRamp st hramp hstart htarget hk]

/-- Sample `k + 1` of a ramp, before the last one, returns `S + (k + 1)*I` (R209). -/
theorem Env.levelAt_atRampStart (hk : k + 1 < n.toNat) :
    (((Env.atRampStart ph start target n).levelAt st k).toNat : Int) = rampLevel start target n (k + 1) := by
  rw [Env.levelAt, Env.after_atRampStart st hramp hstart htarget (Nat.lt_of_succ_lt hk),
    Env.step_inRamp st hramp hstart htarget hk]
  exact rampLevel_toNat hk.le

/-- The last sample of a ramp returns its target and enters the next phase (R209). -/
theorem Env.step_after_atRampStart (hk : k + 1 = n.toNat) :
    ((Env.atRampStart ph start target n).after st k).step st =
      ((Env.inRamp ph start target n k).completed.enterNext st, target) := by
  have hlt : k < n.toNat := Nat.lt_of_succ_le hk.le
  have hcount := Env.inRamp_count_toNat hlt ph start target
  rw [Env.after_atRampStart st hramp hstart htarget hlt, Env.step_last st hramp (by rwa [hcount])]
  rfl

end

/-- Settles O53: before its last sample a ramp is `k` increments from its start, which by R213 is a level, so nothing
wraps; the last sample takes the target and enters another phase. -/
theorem rampTrajectory : Obligations.RampTrajectory := by
  intro st ph start target n hramp hstart htarget hn
  have hpos : 0 < n.toNat := by bv_omega
  have hlast : n.toNat - 1 + 1 = n.toNat := Nat.sub_add_cancel hpos
  have hstep := Env.step_after_atRampStart st hramp hstart htarget hlast
  refine ⟨?inner, ?last, ?left⟩
  case inner =>
    intro k hk hkn
    obtain ⟨k, rfl⟩ := Nat.exists_eq_add_of_le' hk
    rw [Nat.add_sub_cancel, Env.levelAt_atRampStart st hramp hstart htarget hkn,
      Env.after_atRampStart st hramp hstart htarget hkn]
    exact ⟨rfl, rfl⟩
  case last => rw [Env.levelAt, hstep]
  case left =>
    rw [← hlast, Env.after_succ, hstep]
    exact Env.phase_enterNext_ne st hramp

end Sys2Proof.Machine

namespace Sys2Proof.Machine

/-! ### A signed value scaled by a fraction, rounded down (R10) -/

section
variable {x g c : Int} (hg : 0 ≤ g) (hgc : g ≤ c) (hc : 0 < c)
include hg hgc hc

/-- Scaling by `g / c` in [0, 1] and rounding down does not pass below both 0 and the value: the value is an integer. -/
theorem min_zero_le_mul_ediv : min x 0 ≤ x * g / c := by
  refine Int.le_ediv_of_mul_le hc ?_
  rcases le_total x 0 with hx | hx
  · rw [min_eq_left hx]
    exact mul_le_mul_of_nonpos_left hgc hx
  · rw [min_eq_right hx, zero_mul]
    exact mul_nonneg hx hg

/-- Scaling by `g / c` in [0, 1] and rounding down does not pass above both 0 and the value. -/
theorem mul_ediv_le_max_zero : x * g / c ≤ max x 0 := by
  refine Int.ediv_le_of_le_mul hc ?_
  rcases le_total x 0 with hx | hx
  · rw [max_eq_right hx, zero_mul]
    exact mul_nonpos_of_nonpos_of_nonneg hx hg
  · rw [max_eq_left hx]
    exact mul_le_mul_of_nonneg_left hgc hx

end

/-! ### The modulation law (R252) -/

/-- The cut of R252 as a floor division. -/
theorem modCut_eq (m : Int) (d : Nat) : modCut m d = (d : Int) * (32768 - m) / 65536 := rfl

/-- The law of R252 as a floor division. -/
theorem modApply_eq (x m : Int) (d : Nat) : modApply x m d = x * (32768 - modCut m d) / 32768 := rfl

/-- Depth 0 cuts nothing. -/
@[simp] theorem modCut_depth_zero (m : Int) : modCut m 0 = 0 := by simp [modCut_eq]

/-- A sample of which nothing is cut is unchanged. -/
theorem modApply_of_modCut_eq_zero {m : Int} {d : Nat} (h : modCut m d = 0) (x : Int) : modApply x m d = x := by
  rw [modApply_eq, h]
  exact Int.mul_ediv_cancel x (by decide)

section
variable {m : Int} {d : Nat} (hd : d ≤ 32768)
include hd

/-- At the modulator's peak nothing is cut, whatever the depth. -/
theorem modCut_peak : modCut 32767 d = 0 := by
  rw [modCut_eq]
  omega

variable (hmlo : -32767 ≤ m) (hmhi : m ≤ 32767)
include hmlo hmhi

/-- The dividend of the cut is an unsigned number of 31 bits. -/
theorem modCut_dividend_range : 0 ≤ (d : Int) * (32768 - m) ∧ (d : Int) * (32768 - m) ≤ 2 ^ 31 - 32768 := by
  have hd0 : (0 : Int) ≤ d := Int.natCast_nonneg d
  constructor
  · exact mul_nonneg hd0 (by omega)
  · calc (d : Int) * (32768 - m) ≤ 32768 * 65535 := mul_le_mul (by omega) (by omega) (by omega) (by decide)
      _ = 2 ^ 31 - 32768 := by decide

/-- The cut leaves a gain of at least `1 / 32768`. -/
theorem modCut_range : 0 ≤ modCut m d ∧ modCut m d ≤ 32767 := by
  have hdividend := modCut_dividend_range hd hmlo hmhi
  rw [modCut_eq]
  omega

/-- A modulated sample lies between 0 and the sample. -/
theorem modApply_between (x : Int) : min x 0 ≤ modApply x m d ∧ modApply x m d ≤ max x 0 := by
  obtain ⟨hcut0, hcut⟩ := modCut_range hd hmlo hmhi
  have hg : 0 ≤ 32768 - modCut m d := by omega
  have hgc : 32768 - modCut m d ≤ 32768 := by omega
  exact ⟨min_zero_le_mul_ediv hg hgc (by decide), mul_ediv_le_max_zero hg hgc (by decide)⟩

/-- A negative sample stays negative: its product with the gain, which is positive, is rounded down. -/
theorem modApply_neg {x : Int} (hx : x < 0) : modApply x m d < 0 := by
  have hcut := (modCut_range hd hmlo hmhi).2
  exact Int.ediv_neg_of_neg_of_pos (mul_neg_of_neg_of_pos hx (by omega)) (by decide)

end

/-- Settles O49: the cut is in [0, 32767], so the gain is a positive fraction of 32768, and a sample scaled by it lies
between 0 and itself. -/
theorem modulationLaw : Obligations.ModulationLaw := by
  intro x m d hxlo hxhi hmlo hmhi hd t g
  obtain ⟨hdividend0, hdividend⟩ := modCut_dividend_range hd hmlo hmhi
  obtain ⟨ht0, ht⟩ : 0 ≤ t ∧ t ≤ 32767 := modCut_range hd hmlo hmhi
  obtain ⟨hmin, hmax⟩ := modApply_between hd hmlo hmhi x
  refine ⟨modApply_eq x m d, hdividend0, hdividend, ht0, ht, by omega, by omega, hmin, hmax, by omega, by omega,
    modApply_neg hd hmlo hmhi, ?depthZero, ?peak, ?fullCut⟩
  case depthZero =>
    rintro rfl
    have hcut : t = 0 := modCut_depth_zero m
    exact ⟨hcut, by omega, modApply_of_modCut_eq_zero hcut x⟩
  case peak =>
    rintro rfl
    have hcut : t = 0 := modCut_peak hd
    exact ⟨hcut, modApply_of_modCut_eq_zero hcut x⟩
  case fullCut =>
    rintro rfl rfl
    exact ⟨by decide, by decide, by rintro rfl; decide, by rintro rfl; decide⟩

end Sys2Proof.Machine

namespace Sys2Proof.Machine

/-! ### The block of samples of a STEP (R290 to R293) -/

/-- The voice's sample `k` after the oscillator `o` and the envelope `e` (R291). -/
def voiceAt (st : Settings) (o : Osc) (e : Env) (k : Nat) : Sample :=
  BitVec.ofInt 16 (voiceSample (cosTable (o.advance k).index) (e.levelAt st k))

/-- A sample modulated at depth `d` by the oscillator `o` (R252, R253). -/
def modSample (d : Nat) (o : Osc) (x : Sample) : Sample := BitVec.ofInt 16 (modApply x.toInt (cosTable o.index) d)

/-- One sample, then the others. -/
theorem voiceStep_succ (st : Settings) (n : Nat) (o : Osc) (e : Env) :
    voiceStep st (n + 1) o e =
      ((voiceStep st n o.tick.1 (e.step st).1).1, (voiceStep st n o.tick.1 (e.step st).1).2.1,
        voiceAt st o e 0 :: (voiceStep st n o.tick.1 (e.step st).1).2.2) := by
  rw [voiceAt, Osc.advance_zero]
  rfl

/-- The sample after the first is the first one after a tick and an envelope sample. -/
theorem voiceAt_succ (st : Settings) (o : Osc) (e : Env) (k : Nat) :
    voiceAt st o e (k + 1) = voiceAt st o.tick.1 (e.step st).1 k := by
  rw [voiceAt, ← Osc.advance_tick]
  rfl

/-- The voice's block is known sample by sample, and both units end `n` samples later (R291, R293). -/
theorem voiceStep_eq (st : Settings) (n : Nat) (o : Osc) (e : Env) :
    voiceStep st n o e = (o.advance n, e.after st n, (List.range n).map (voiceAt st o e)) := by
  induction n generalizing o e with
  | zero => rw [Osc.advance_zero]; rfl
  | succ n ih =>
    rw [voiceStep_succ, ih, Osc.advance_tick, List.range_succ_eq_map, List.map_cons, List.map_map]
    simp only [Function.comp_def, voiceAt_succ]
    rfl

/-- One entry of the block, then the others. -/
theorem modStep_cons (d : Nat) (x : Sample) (xs : List Sample) (o : Osc) :
    modStep d (x :: xs) o = ((modStep d xs o.tick.1).1, modSample d o x :: (modStep d xs o.tick.1).2) := rfl

/-- The modulator changes entry `k` by its sample `k` and ends a block later (R253, R293). -/
theorem modStep_eq (d : Nat) (xs : List Sample) (o : Osc) :
    modStep d xs o = (o.advance xs.length, xs.mapIdx fun k => modSample d (o.advance k)) := by
  induction xs generalizing o with
  | nil => rw [List.length_nil, Osc.advance_zero]; rfl
  | cons x xs ih =>
    rw [modStep_cons, ih, List.mapIdx_cons, List.length_cons]
    simp only [Osc.advance_zero, Osc.advance_tick]

/-- The two passes of STEP, field by field (R290). -/
theorem State.cmdStep_eq (s : State) :
    s.cmdStep = { s with
      voice := s.voice.advance s.cfg.blockSize
      modulator := s.modulator.advance s.cfg.blockSize
      env := s.env.after s.settings s.cfg.blockSize
      out := ((List.range s.cfg.blockSize).map (voiceAt s.settings s.voice s.env)).mapIdx
        fun k => modSample s.settings.modDepth.toNat (s.modulator.advance k) } := by
  simp only [State.cmdStep, voiceStep_eq, modStep_eq, List.length_map, List.length_range]

/-- The index of R174 is the phase shifted right by 22 bits. -/
theorem Osc.index_eq_ushiftRight (o : Osc) : o.index = (o.phase >>> 22).toNat := by
  rw [Osc.index_eq, BitVec.toNat_ushiftRight, Nat.shiftRight_eq_div_pow]

/-- Settles O5: a block is known sample by sample, each pass an induction on its samples. -/
theorem stepProducesBlock : Obligations.StepProducesBlock := by
  intro s
  refine ⟨s.cmdStep, rfl, ?length, fun j hj => ?entry, ?frame⟩
  case length => simp [State.cmdStep_eq]
  case entry =>
    simp only [State.cmdStep_eq, List.getElem?_mapIdx, List.getElem?_map, List.getElem?_range hj, Option.map_some,
      modSample, voiceAt, Osc.index_eq_ushiftRight]
    rfl
  case frame =>
    rw [State.cmdStep_eq]
    rfl

/-- One sample of both units, then the others. -/
theorem interleaved_succ (st : Settings) (n : Nat) (v : Osc) (e : Env) (m : Osc) :
    interleaved st (n + 1) v e m =
      ((interleaved st n v.tick.1 (e.step st).1 m.tick.1).1, (interleaved st n v.tick.1 (e.step st).1 m.tick.1).2.1,
        (interleaved st n v.tick.1 (e.step st).1 m.tick.1).2.2.1,
        modSample st.modDepth.toNat m (voiceAt st v e 0) ::
          (interleaved st n v.tick.1 (e.step st).1 m.tick.1).2.2.2) := by
  rw [voiceAt, Osc.advance_zero]
  rfl

/-- The interleaved order is the voice's pass followed by the modulator's: neither unit reads what the other writes but
the sample itself (R292). -/
theorem interleaved_eq_passes (st : Settings) (n : Nat) (v : Osc) (e : Env) (m : Osc) :
    interleaved st n v e m =
      ((voiceStep st n v e).1, (voiceStep st n v e).2.1,
        modStep st.modDepth.toNat (voiceStep st n v e).2.2 m) := by
  induction n generalizing v e m with
  | zero => rfl
  | succ n ih =>
    rw [voiceStep_succ, modStep_cons, interleaved_succ, ih]

/-- Settles O6: the interleaved order is the two passes for a block of any length. -/
theorem stepPassesEqualInterleaved : Obligations.StepPassesEqualInterleaved := by
  intro s
  rw [interleaved_eq_passes]
  rfl

end Sys2Proof.Machine

namespace Sys2Proof.Machine

/-! ### NOP and the settings (R281, R300 to R305) -/

/-- Settles O1: NOP's arm answers the state itself, and the decoder checks the reserved bits first. -/
theorem nopChangesNothing : Obligations.NopChangesNothing := by
  refine ⟨fun s => rfl, ?word, fun d hop hrsv => ?reserved⟩
  case word => exact (decode_cmdKey 0#32).trans (decodeCmd_nop rfl rfl)
  case reserved =>
    exact (decode_cmdKey d).trans (decodeCmd_reservedBits_of_nop_step (.inl (congrArg BitVec.toNat hop)) hrsv)

/-- Settles O7: the three setters store their operand as it is. -/
theorem durationSettersStoreAnyValue : Obligations.DurationSettersStoreAnyValue := fun _ d =>
  ⟨rfl, rfl, rfl, decode_writeKey .attack d, decode_writeKey .decay d, decode_writeKey .release d⟩

section
variable {limit : Nat} {d : Word}

/-- Up to its limit an operand is stored as it is and no error is recorded (R104, R363). -/
theorem noteClamp_of_le (h : d.toNat ≤ limit) (r : Reg) (store : Nat → State) :
    noteClamp limit r d (store (clampTo limit d)) = store d.toNat := by
  obtain ⟨-, hclamp⟩ := (noteClamp_cases limit r d (store (clampTo limit d))).resolve_right fun hlt => hlt.1.not_ge h
  rw [hclamp, clampTo, min_eq_left h]

/-- Above its limit an operand is stored as the limit and `E_CLAMP` is recorded (R104, R363). -/
theorem noteClamp_of_lt (h : limit < d.toNat) (r : Reg) (store : Nat → State) :
    noteClamp limit r d (store (clampTo limit d)) = (store limit).raise .clamp r.offset d := by
  obtain ⟨-, hclamp⟩ := (noteClamp_cases limit r d (store (clampTo limit d))).resolve_left fun hle => hle.1.not_gt h
  rw [hclamp, clampTo, min_eq_right h.le]

end

/-- The state with a SUSTAIN setting, as WR_SUSTAIN stores it (R302). -/
def State.storeSustain (s : State) (n : Nat) : State :=
  { s with settings := { s.settings with sustain := BitVec.ofNat 25 n } }

/-- The state with a MODFREQ setting, as WR_MODFREQ stores it (R304). -/
def State.storeModfreq (s : State) (n : Nat) : State :=
  { s with modulator := { s.modulator with ftw := BitVec.ofNat 32 n } }

/-- The state with a MODDEPTH setting, as WR_MODDEPTH stores it (R305). -/
def State.storeModdepth (s : State) (n : Nat) : State :=
  { s with settings := { s.settings with modDepth := BitVec.ofNat 16 n } }

/-- WR_SUSTAIN stores its operand within its limit and records one above it (R302). -/
theorem exec_wrSustain (d : Word) (s : State) :
    exec (.wrSustain d) s = .next (noteClamp one .sustain d (s.storeSustain (clampTo one d))) := rfl

/-- Settles O8: SUSTAIN is a clamped setting of 25 bits. -/
theorem sustainSetterClamps : Obligations.SustainSetterClamps := by
  refine fun s d => ⟨fun h => ?stored, fun h => ?clamped, decode_writeKey .sustain d⟩
  case stored =>
    rw [exec_wrSustain, noteClamp_of_le (limit := one) h .sustain s.storeSustain,
      State.storeSustain, BitVec.ofNat_toNat]
  case clamped =>
    rw [exec_wrSustain, noteClamp_of_lt (limit := one) h .sustain s.storeSustain]
    rfl

/-- WR_MODFREQ stores its operand within its limit and records one above it (R304). -/
theorem exec_wrModfreq (d : Word) (s : State) :
    exec (.wrModfreq d) s = .next (noteClamp ftwMax .modfreq d (s.storeModfreq (clampTo ftwMax d))) := rfl

/-- Settles O9: MODFREQ is a clamped setting of a whole word. -/
theorem modfreqSetterClamps : Obligations.ModfreqSetterClamps := by
  refine fun s d => ⟨fun h => ?stored, fun h => ?clamped, decode_writeKey .modfreq d⟩
  case stored =>
    rw [exec_wrModfreq, noteClamp_of_le (limit := ftwMax) h .modfreq s.storeModfreq,
      State.storeModfreq, BitVec.ofNat_toNat, BitVec.setWidth_eq]
  case clamped =>
    rw [exec_wrModfreq, noteClamp_of_lt (limit := ftwMax) h .modfreq s.storeModfreq]
    rfl

/-- WR_MODDEPTH stores its operand within its limit and records one above it (R305). -/
theorem exec_wrModdepth (d : Word) (s : State) :
    exec (.wrModdepth d) s = .next (noteClamp done .moddepth d (s.storeModdepth (clampTo done d))) := rfl

/-- Settles O10: MODDEPTH is a clamped setting of 16 bits. -/
theorem moddepthSetterClamps : Obligations.ModdepthSetterClamps := by
  refine fun s d => ⟨fun h => ?stored, fun h => ?clamped, decode_writeKey .moddepth d⟩
  case stored =>
    rw [exec_wrModdepth, noteClamp_of_le (limit := done) h .moddepth s.storeModdepth,
      State.storeModdepth, BitVec.ofNat_toNat]
  case clamped =>
    rw [exec_wrModdepth, noteClamp_of_lt (limit := done) h .moddepth s.storeModdepth]
    rfl

end Sys2Proof.Machine

namespace Sys2Proof.Machine

/-! ### Register reads (R310 to R331) -/

/-- A read outside the OUT window answers the register's value and changes nothing else (R36). -/
theorem exec_decodeRead {r : Reg} (hr : ∀ j, r ≠ .out j) (s : State) :
    exec (decodeRead r) s = .next { s with reads := s.reads ++ [readValue s r] } := by
  cases r with
  | out j => exact absurd rfl (hr j)
  | _ => rfl

/-- STATUS where no error is recorded (R36, R360). -/
theorem ErrState.status_of_code_none {e : ErrState} (h : e.code = none) :
    e.status = 0#24 ++ 0#4 ++ 0#2 ++ BitVec.ofBool e.multi ++ BitVec.ofBool e.err := by
  rw [ErrState.status, ErrState.codeBits, h]
  rfl

/-- STATUS where an error is recorded (R36, R360). -/
theorem ErrState.status_of_code_some {e : ErrState} {x : Err} (h : e.code = some x) :
    e.status = 0#24 ++ x.code ++ 0#2 ++ BitVec.ofBool e.multi ++ BitVec.ofBool e.err := by
  rw [ErrState.status, ErrState.codeBits, h]
  rfl

/-- Settles O13: the reads of the error state; STATUS by the recorded error. -/
theorem errorRegisterReads : Obligations.ErrorRegisterReads := by
  refine fun s => ⟨exec_decodeRead (r := .cmd) nofun s, ?status, exec_decodeRead (r := .erraddr) nofun s,
    exec_decodeRead (r := .errdata) nofun s, fun d => ⟨decode_readKey .cmd d, decode_readKey .status d,
      decode_readKey .erraddr d, decode_readKey .errdata d⟩⟩
  case status =>
    refine (exec_decodeRead (r := .status) nofun s).trans ?_
    cases hcode : s.error.code with
    | none => rw [readValue, ErrState.status_of_code_none hcode]
    | some x =>
      rw [readValue, ErrState.status_of_code_some hcode]
      cases x <;> rfl

/-- Settles O14: two reads of registers outside the OUT window. -/
theorem configAndNoteReads : Obligations.ConfigAndNoteReads := fun s =>
  ⟨exec_decodeRead (r := .config) nofun s, exec_decodeRead (r := .curnote) nofun s,
    fun d => ⟨decode_readKey .config d, decode_readKey .curnote d⟩⟩

/-- Settles O15: six reads of registers outside the OUT window. -/
theorem settingReads : Obligations.SettingReads := fun s =>
  ⟨exec_decodeRead (r := .attack) nofun s, exec_decodeRead (r := .decay) nofun s,
    exec_decodeRead (r := .sustain) nofun s, exec_decodeRead (r := .release) nofun s,
    exec_decodeRead (r := .modfreq) nofun s, exec_decodeRead (r := .moddepth) nofun s,
    fun d => ⟨decode_readKey .attack d, decode_readKey .decay d, decode_readKey .sustain d,
      decode_readKey .release d, decode_readKey .modfreq d, decode_readKey .moddepth d⟩⟩

/-- Settles O16: six reads of registers outside the OUT window; ENV_PHASE by the phase. -/
theorem envelopeReads : Obligations.EnvelopeReads := by
  refine fun s => ⟨?phase, exec_decodeRead (r := .envLevel) nofun s, exec_decodeRead (r := .envCount) nofun s,
    exec_decodeRead (r := .envLen) nofun s, exec_decodeRead (r := .envTarget) nofun s,
    exec_decodeRead (r := .envInc) nofun s,
    fun d => ⟨decode_readKey .envPhase d, decode_readKey .envLevel d, decode_readKey .envCount d,
      decode_readKey .envLen d, decode_readKey .envTarget d, decode_readKey .envInc d⟩⟩
  case phase =>
    refine (exec_decodeRead (r := .envPhase) nofun s).trans ?_
    rw [readValue]
    cases s.env.phase <;> rfl

/-- Settles O17: three reads of registers outside the OUT window. -/
theorem oscillatorReads : Obligations.OscillatorReads := fun s =>
  ⟨exec_decodeRead (r := .voiceFtw) nofun s, exec_decodeRead (r := .voicePhase) nofun s,
    exec_decodeRead (r := .modPhase) nofun s,
    fun d => ⟨decode_readKey .voiceFtw d, decode_readKey .voicePhase d, decode_readKey .modPhase d⟩⟩

end Sys2Proof.Machine

namespace Sys2Proof

/-! ### The keys of the two windows (R107) -/

/-- The offset of an entry of the FTAB window (R71). -/
theorem Reg.ftab_offset_toNat (i : BitVec 7) : (Reg.ftab i).offset.toNat = 0x400 + 4 * i.toNat := by
  revert i; decide

/-- A register's offset, written as its number in the map. -/
theorem Reg.offset_eq_ofNat {r : Reg} {n : Nat} (h : r.offset.toNat = n) : r.offset = BitVec.ofNat 12 n := by
  rw [← h, BitVec.ofNat_toNat, BitVec.setWidth_eq]

/-- A write key is the offset with the write bit above it (R100). -/
theorem writeKey_eq_ofNat {r : Reg} {n : Nat} (h : r.offset.toNat = n) : writeKey r = BitVec.ofNat 13 (0x1000 + n) := by
  have hoffset := r.offset.isLt
  apply BitVec.eq_of_toNat_eq
  rw [writeKey, BitVec.toNat_append, ← Nat.shiftLeft_add_eq_or_of_lt hoffset, h, BitVec.toNat_ofNat, BitVec.toNat_ofNat]
  omega

/-- The registers whose writes are rows of WR_RO: all but CMD, STATUS and the settings (R332). -/
def Reg.isReadOnly : Reg → Bool
  | .cmd | .status | .attack | .decay | .sustain | .release | .modfreq | .moddepth => false
  | .erraddr | .errdata | .config | .curnote | .envPhase | .envLevel | .envCount | .envLen | .envTarget | .envInc
  | .voiceFtw | .voicePhase | .modPhase | .ftab _ | .out _ => true

end Sys2Proof

namespace Sys2Proof.Machine

/-! ### Writes to read-only registers (R332) -/

/-- A write to a read-only register, in the OUT window to a mapped entry, is dropped and recorded. -/
theorem exec_of_decodeWrite_readOnly {r : Reg} {i : Instr} {s : State} {d : Word} (hi : decodeWrite r d = .ok i)
    (hr : r.isReadOnly = true) (hout : ∀ j, r = .out j → j.toNat < s.cfg.blockSize) :
    exec i s = .next (s.raise .roWrite r.offset d) := by
  cases r with
  | cmd | status | attack | decay | sustain | release | modfreq | moddepth => cases hr
  | out j =>
    cases hi
    exact if_pos (decide_eq_true (hout j rfl))
  | _ => cases hi; rfl

/-- Settles O20: every row is a write to a read-only register, and the windows' rows are named by their offsets. -/
theorem readOnlyWritesAreDropped : Obligations.ReadOnlyWritesAreDropped := by
  intro s d
  have hdrop {r : Reg} {i : Instr} (hi : decodeWrite r d = .ok i) := exec_of_decodeWrite_readOnly (s := s) hi
  refine ⟨hdrop (r := .erraddr) rfl rfl nofun, hdrop (r := .errdata) rfl rfl nofun,
    hdrop (r := .config) rfl rfl nofun, hdrop (r := .curnote) rfl rfl nofun,
    hdrop (r := .envPhase) rfl rfl nofun, hdrop (r := .envLevel) rfl rfl nofun,
    hdrop (r := .envCount) rfl rfl nofun, hdrop (r := .envLen) rfl rfl nofun,
    hdrop (r := .envTarget) rfl rfl nofun, hdrop (r := .envInc) rfl rfl nofun,
    hdrop (r := .voiceFtw) rfl rfl nofun, hdrop (r := .voicePhase) rfl rfl nofun,
    hdrop (r := .modPhase) rfl rfl nofun, fun i => ?ftab, fun j => ⟨fun hj => ?out, fun hj => ?outUnmapped, ?outKey⟩,
    fun i => ?ftabKey, decode_writeKey .erraddr d, decode_writeKey .errdata d, decode_writeKey .config d,
    decode_writeKey .curnote d, decode_writeKey .envPhase d, decode_writeKey .envLevel d,
    decode_writeKey .envCount d, decode_writeKey .envLen d, decode_writeKey .envTarget d,
    decode_writeKey .envInc d, decode_writeKey .voiceFtw d, decode_writeKey .voicePhase d,
    decode_writeKey .modPhase d⟩
  case ftab =>
    rw [← Reg.offset_eq_ofNat (Reg.ftab_offset_toNat i)]
    exact hdrop (r := .ftab i) rfl rfl nofun
  case out =>
    rw [← Reg.offset_eq_ofNat (Reg.out_offset_toNat j)]
    exact hdrop (r := .out j) rfl rfl fun | _, rfl => hj
  case outUnmapped =>
    rw [← Reg.offset_eq_ofNat (Reg.out_offset_toNat j)]
    exact exec_wrRoOut_of_le hj d
  case outKey =>
    have hkey := writeKey_eq_ofNat (Reg.out_offset_toNat j)
    rw [show 0x1800 + 4 * j.toNat = 0x1000 + (0x800 + 4 * j.toNat) by omega, ← hkey, decode_writeKey]
    rfl
  case ftabKey =>
    have hkey := writeKey_eq_ofNat (Reg.ftab_offset_toNat i)
    rw [show 0x1400 + 4 * i.toNat = 0x1000 + (0x400 + 4 * i.toNat) by omega, ← hkey, decode_writeKey]
    rfl

end Sys2Proof.Machine

namespace Sys2Proof

/-- A read key is the offset with nothing above it (R100). -/
theorem readKey_eq_ofNat {r : Reg} {n : Nat} (h : r.offset.toNat = n) : readKey r = BitVec.ofNat 13 n := by
  have hoffset := r.offset.isLt
  apply BitVec.eq_of_toNat_eq
  rw [readKey, BitVec.toNat_append, ← Nat.shiftLeft_add_eq_or_of_lt hoffset, h, BitVec.toNat_ofNat, BitVec.toNat_ofNat]
  omega

/-- The key of a write names its register (R71). -/
theorem writeKey_inj {r r' : Reg} (h : writeKey r = writeKey r') : r = r' := by
  have hoffset : r.offset = r'.offset := by rw [← keyOffset_writeKey r, h, keyOffset_writeKey]
  exact Option.some.inj (by rw [← regAt_offset r, hoffset, regAt_offset])

/-- A write to CMD that is accepted is one of the four commands (R280). -/
theorem decodeCmd_ok_cases {d : Word} {i : Instr} (h : decodeCmd d = .ok i) :
    i = .nop ∨ (∃ note, i = .press note) ∨ (∃ note, i = .release note) ∨ i = .step := by
  simp only [decodeCmd] at h
  split_ifs at h <;> cases h <;> simp

/-- A read and a write never have one key (R100). -/
theorem readKey_ne_writeKey (r r' : Reg) : readKey r ≠ writeKey r' := by
  intro h
  have hwrites := keyWrites_writeKey r'
  rw [← h, keyWrites_readKey] at hwrites
  cases hwrites

/-- The access is a read, of whatever offset (R100). -/
def Access.isRead (a : Access) : Bool := !keyWrites a.key

/-- A write of a register is no read. -/
@[simp] theorem Access.isRead_writeKey (size : Nat) (r : Reg) (d : Word) :
    Access.isRead ⟨size, writeKey r, d⟩ = false := by
  rw [Access.isRead, keyWrites_writeKey]
  rfl

/-- A read of a register is a read. -/
@[simp] theorem Access.isRead_readKey (size : Nat) (r : Reg) (d : Word) :
    Access.isRead ⟨size, readKey r, d⟩ = true := by
  rw [Access.isRead, keyWrites_readKey]
  rfl

end Sys2Proof

namespace Sys2Proof.Machine

/-! ### What a transaction leaves to the host (R36, R363, R410) -/

/-- The host's side of `t` is that of `s`, with `n` more values answered: the parameters, the reset input and the events
not yet taken stay. -/
structure State.Answering (n : Nat) (s t : State) : Prop where
  cfg : t.cfg = s.cfg
  resetLine : t.resetLine = s.resetLine
  pending : t.pending = s.pending
  reads_length : t.reads.length = s.reads.length + n

/-- A state answers nothing by itself. -/
theorem State.Answering.refl (s : State) : s.Answering 0 s := ⟨rfl, rfl, rfl, rfl⟩

section
variable {n : Nat} {s t : State}

/-- Recording an error answers nothing. -/
theorem State.Answering.raise (h : s.Answering n t) (x : Err) (addr : Offset) (data : Word) :
    s.Answering n (t.raise x addr data) :=
  ⟨h.cfg, h.resetLine, h.pending, h.reads_length⟩

/-- An answer is one more value. -/
theorem State.Answering.answer (h : s.Answering n t) (v : Word) : s.Answering (n + 1) (t.answer v) where
  cfg := h.cfg
  resetLine := h.resetLine
  pending := h.pending
  reads_length := by rw [State.answer_reads, List.length_append, h.reads_length]; rfl

/-- A setter's clamp record answers nothing. -/
theorem State.Answering.noteClamp (h : s.Answering n t) (limit : Nat) (r : Reg) (d : Word) :
    s.Answering n (noteClamp limit r d t) := by
  rcases noteClamp_cases limit r d t with ⟨-, hclamp⟩ | ⟨-, hclamp⟩ <;> rw [hclamp]
  · exact h
  · exact h.raise _ _ _

end

/-- A command completes and answers nothing. -/
theorem exec_answering_of_decodeCmd {d : Word} {i : Instr} (hi : decodeCmd d = .ok i) (s : State) :
    ∃ t, exec i s = .next t ∧ s.Answering 0 t := by
  rcases decodeCmd_ok_cases hi with rfl | ⟨note, rfl⟩ | ⟨note, rfl⟩ | rfl
  · exact ⟨s, rfl, .refl s⟩
  · by_cases hnote : note.toNat < 128
    · exact ⟨_, exec_press hnote s, rfl, rfl, rfl, rfl⟩
    · exact ⟨_, if_neg hnote, (State.Answering.refl s).raise _ _ _⟩
  · by_cases hnote : note.toNat < 128
    · refine ⟨_, exec_release hnote s, ?_⟩
      by_cases hcurrent : noteIndex note = s.curNote
      · rw [State.cmdRelease_curNote hcurrent]
        exact ⟨rfl, rfl, rfl, rfl⟩
      · rw [State.cmdRelease_of_ne hcurrent]
        exact .refl s
    · exact ⟨_, if_neg hnote, (State.Answering.refl s).raise _ _ _⟩
  · exact ⟨_, rfl, rfl, rfl, rfl, rfl⟩

/-- A write to a mapped register completes and answers nothing. -/
theorem exec_answering_of_decodeWrite {r : Reg} {d : Word} {i : Instr} (hi : decodeWrite r d = .ok i) (s : State) :
    ∃ t, exec i s = .next t ∧ s.Answering 0 t := by
  cases r with
  | cmd => exact exec_answering_of_decodeCmd hi s
  | status =>
    cases hi
    refine ⟨_, rfl, ?_⟩
    split
    · exact ⟨rfl, rfl, rfl, rfl⟩
    · exact .refl s
  | sustain | modfreq | moddepth =>
    cases hi
    refine ⟨_, rfl, State.Answering.noteClamp ?_ _ _ _⟩
    exact ⟨rfl, rfl, rfl, rfl⟩
  | out j =>
    cases hi
    by_cases hj : j.toNat < s.cfg.blockSize
    · exact ⟨_, if_pos (decide_eq_true hj), (State.Answering.refl s).raise _ _ _⟩
    · exact ⟨_, exec_wrRoOut_of_le (Nat.le_of_not_lt hj) d, (State.Answering.refl s).raise _ _ _⟩
  | _ => cases hi; exact ⟨_, rfl, rfl, rfl, rfl, rfl⟩

/-- A read of a mapped register completes and answers one value, also where it is a read from `OUT[B]` on. -/
theorem exec_decodeRead_answering (r : Reg) (s : State) :
    ∃ t, exec (decodeRead r) s = .next t ∧ s.Answering 1 t := by
  by_cases hout : ∃ j, r = .out j
  · obtain ⟨j, rfl⟩ := hout
    by_cases hj : j.toNat < s.cfg.blockSize
    · exact ⟨_, if_pos (decide_eq_true hj), (State.Answering.refl s).answer _⟩
    · exact ⟨_, exec_rdOut_of_le (Nat.le_of_not_lt hj), ((State.Answering.refl s).raise _ _ _).answer _⟩
  · exact ⟨_, exec_decodeRead (not_exists.mp hout) s, (State.Answering.refl s).answer _⟩

/-- A transaction that the decoder rejects answers as one that it accepts (R363). -/
theorem rejectAccess_answering (x : DecodeError) (a : Access) (s : State) :
    s.Answering a.isRead.toNat (rejectAccess x a s) := by
  rcases rejectAccess_cases x a s with ⟨hw, hreject⟩ | ⟨hw, hreject⟩ <;> rw [hreject, Access.isRead, hw]
  · exact (State.Answering.refl s).raise _ _ _
  · exact ((State.Answering.refl s).raise _ _ _).answer _

/-- The decoder accepts what is a read or a write of a mapped register, by the direction of the key (R106). -/
theorem decode_ok_cases {k : Key} {d : Word} {i : Instr} (h : decode k d = .ok i) :
    (keyWrites k = true ∧ ∃ r, decodeWrite r d = .ok i) ∨ (keyWrites k = false ∧ ∃ r, i = decodeRead r) := by
  by_cases ha : k.toNat % 4 = 0
  case neg => rw [decode_of_misaligned ha] at h; cases h
  case pos =>
    cases hreg : regAt (keyOffset k) with
    | none => rw [decode_of_regAt_none ha hreg] at h; cases h
    | some r =>
      rw [decode_of_regAt_some ha hreg] at h
      cases hw : keyWrites k with
      | true => rw [hw] at h; exact .inl ⟨rfl, r, h⟩
      | false => rw [hw] at h; cases h; exact .inr ⟨rfl, r, rfl⟩

/-- Every transaction completes; it answers one value if it is a read, and none if it is a write. -/
theorem performAccess_answering (a : Access) (s : State) :
    ∃ t, performAccess a s = .next t ∧ s.Answering a.isRead.toNat t := by
  cases hd : decode a.key a.data with
  | error x => exact ⟨_, performAccess_of_error hd s, rejectAccess_answering x a s⟩
  | ok i =>
    rw [performAccess_of_ok hd, Access.isRead]
    rcases decode_ok_cases hd with ⟨hw, r, hi⟩ | ⟨hw, r, rfl⟩ <;> rw [hw]
    · exact exec_answering_of_decodeWrite hi s
    · exact exec_decodeRead_answering r s

/-! ### Runs of word accesses (R410) -/

/-- A step that goes on leaves the rest of the run. -/
theorem runSteps_succ {s t : State} (h : step s = .next t) (k : Nat) : runSteps (k + 1) s = runSteps k t := by
  rw [runSteps, h]

/-- The event is a word access (R73). -/
def Event.IsWordAccess (ev : Event) : Prop := ∃ a : Access, ev = .access a ∧ a.size = 4

/-- The event is a read access. -/
def Event.reads : Event → Bool
  | .access a => a.isRead
  | _ => false

/-- On a running legal block a run of word accesses completes, and each read in it answers one value. -/
theorem runSteps_wordAccesses {evs : List Event} (hword : ∀ ev ∈ evs, ev.IsWordAccess) {s : State} (hlegal : s.cfg.Legal)
    (hreleased : s.resetLine = .released) (hpending : s.pending = evs) :
    ∃ t, runSteps evs.length s = .next t ∧ t.reads.length = s.reads.length + evs.countP Event.reads := by
  induction evs generalizing s with
  | nil => exact ⟨s, rfl, rfl⟩
  | cons ev evs ih =>
    obtain ⟨a, rfl, hsize⟩ := hword _ List.mem_cons_self
    obtain ⟨t, ht, hanswer⟩ := performAccess_answering a { s with pending := evs }
    have hstep : step s = .next t := (step_eq_performAccess ⟨hlegal, hreleased, hpending⟩ hsize).trans ht
    obtain ⟨u, hu, hreads⟩ := ih (fun ev hev => hword ev (List.mem_cons_of_mem _ hev)) (s := t)
      (hanswer.cfg ▸ hlegal) (hanswer.resetLine.trans hreleased) hanswer.pending
    refine ⟨u, (runSteps_succ hstep _).trans hu, ?_⟩
    have hcount : (Event.access a :: evs).countP Event.reads = evs.countP Event.reads + a.isRead.toNat := by
      rw [List.countP_cons, Event.reads]
      cases a.isRead <;> rfl
    rw [hreads, hanswer.reads_length, hcount, Nat.add_assoc, Nat.add_comm a.isRead.toNat]

/-- A run that begins with a reset goes on from the reset block. -/
theorem runEvents_reset {s : State} (hlegal : s.cfg.Legal) (evs : List Event) :
    runEvents (.assertReset :: .releaseReset :: evs) s =
      runSteps evs.length ({ s with pending := evs } : State).hardwareReset.releaseReset := by
  have hassert : step { s with pending := .assertReset :: .releaseReset :: evs } =
      .next ({ s with pending := .releaseReset :: evs } : State).hardwareReset := if_pos hlegal
  have hrelease : step ({ s with pending := .releaseReset :: evs } : State).hardwareReset =
      .next ({ s with pending := evs } : State).hardwareReset.releaseReset := if_pos hlegal
  exact (runSteps_succ hassert _).trans (runSteps_succ hrelease _)

/-- On a legal block a reset and then word accesses complete, and each read among them answers one value. -/
theorem runEvents_reset_wordAccesses {s : State} (hlegal : s.cfg.Legal) {evs : List Event}
    (hword : ∀ ev ∈ evs, ev.IsWordAccess) :
    ∃ t, runEvents (.assertReset :: .releaseReset :: evs) s = .next t ∧
      t.reads.length = s.reads.length + (.assertReset :: .releaseReset :: evs : List Event).countP Event.reads := by
  rw [runEvents_reset hlegal]
  exact runSteps_wordAccesses hword hlegal rfl rfl

/-! ### The operations of the batch (R341) -/

/-- A script operation assembles to a word access (R110). -/
theorem isWordAccess_of_mem_assemble {ops : List ScriptOp} {ev : Event} (h : ev ∈ assemble ops) : ev.IsWordAccess := by
  obtain ⟨o, -, rfl⟩ := List.mem_map.mp h
  refine ⟨o.assemble, rfl, ?_⟩
  cases o <;> rfl

/-- The writes of the settings with which the batch begins. -/
def Batch.setters (x : Batch) : List ScriptOp :=
  setAttack x.att ++ setDecay x.dec ++ setSustain x.sus ++ setRelease x.rel ++ setModDepth x.dep ++ setModFrequency x.mf

/-- The batch is its settings and then its blocks. -/
theorem Batch.ops_eq (x : Batch) (b : Nat) :
    x.ops b = x.setters ++ batchBlocks b (x.n / b) 0 x.presses x.releases := rfl

/-- No setting is written to CMD. -/
theorem Batch.eq_wr_of_mem_setters {x : Batch} {o : ScriptOp} (h : o ∈ x.setters) :
    ∃ r v, r ≠ Reg.cmd ∧ o = .wr (.named r) v := by
  simp only [Batch.setters, setAttack, setDecay, setSustain, setRelease, setModDepth, setModFrequency, List.mem_append,
    List.mem_singleton, or_assoc] at h
  rcases h with rfl | rfl | rfl | rfl | rfl | rfl <;> exact ⟨_, _, by decide, rfl⟩

/-- A block of the batch is its key events, a STEP and the reads of OUT. -/
theorem mem_batchBlocks_cases {b m k : Nat} {ps rs : List (Nat × BitVec 8)} {o : ScriptOp}
    (h : o ∈ batchBlocks b m k ps rs) :
    (∃ note, o = .press note) ∨ (∃ note, o = .release note) ∨ o = .step ∨ o ∈ rdBlock b := by
  induction m generalizing k ps rs with
  | zero => cases h
  | succ m ih =>
    simp only [batchBlocks, List.mem_append, List.mem_cons, List.mem_map] at h
    rcases h with ((⟨note, -, rfl⟩ | ⟨note, -, rfl⟩) | rfl | hread) | hrest
    · exact .inl ⟨note, rfl⟩
    · exact .inr (.inl ⟨note, rfl⟩)
    · exact .inr (.inr (.inl rfl))
    · exact .inr (.inr (.inr hread))
    · exact ih hrest

/-- What holds of no key event is counted in the STEP and the reads of each block. -/
theorem countP_batchBlocks {p : ScriptOp → Bool} (hpress : ∀ note, p (.press note) = false)
    (hrelease : ∀ note, p (.release note) = false) (b m k : Nat) (ps rs : List (Nat × BitVec 8)) :
    (batchBlocks b m k ps rs).countP p = m * (ScriptOp.step :: rdBlock b).countP p := by
  have hkeys (f : BitVec 8 → ScriptOp) (hf : ∀ note, p (f note) = false) (notes : List (BitVec 8)) :
      (notes.map f).countP p = 0 :=
    List.countP_eq_zero.mpr (List.forall_mem_map.mpr fun note _ => ne_true_of_eq_false (hf note))
  induction m generalizing k ps rs with
  | zero => rw [Nat.zero_mul]; rfl
  | succ m ih =>
    rw [batchBlocks, List.countP_append, ih, List.countP_append, List.countP_append, hkeys _ hpress, hkeys _ hrelease,
      Nat.succ_mul]
    omega

/-- An event that is no reset, no setting and no key event of the batch is counted in its blocks. -/
theorem Batch.countP_events {q : Event → Bool} (hassert : q .assertReset = false) (hrun : q .releaseReset = false)
    (hset : ∀ r v, r ≠ Reg.cmd → q (.access (ScriptOp.wr (.named r) v).assemble) = false)
    (hpress : ∀ note, q (.access (ScriptOp.press note).assemble) = false)
    (hrelease : ∀ note, q (.access (ScriptOp.release note).assemble) = false) (x : Batch) (b : Nat) :
    (x.events b).countP q =
      x.n / b * (ScriptOp.step :: rdBlock b).countP fun o => q (.access o.assemble) := by
  have hsetters : x.setters.countP (fun o => q (.access o.assemble)) = 0 :=
    List.countP_eq_zero.mpr fun o ho => by
      obtain ⟨r, v, hr, rfl⟩ := Batch.eq_wr_of_mem_setters ho
      exact ne_true_of_eq_false (hset r v hr)
  have hops : (assemble (x.ops b)).countP q = (x.ops b).countP fun o => q (.access o.assemble) := List.countP_map
  rw [Batch.events, List.countP_cons_of_neg (ne_true_of_eq_false hassert),
    List.countP_cons_of_neg (ne_true_of_eq_false hrun), hops, Batch.ops_eq, List.countP_append, hsetters, countP_batchBlocks hpress hrelease, Nat.zero_add]

/-- The event is the write of a STEP (R107). -/
def Event.isStep (ev : Event) : Bool := decide (ev = .access ⟨4, 0x1000#13, 0x30000000#32⟩)

/-- An event with another key or data word is no STEP. -/
theorem Event.isStep_eq_false {a : Access} (h : a.key ≠ 0x1000#13 ∨ a.data ≠ 0x30000000#32) :
    Event.isStep (.access a) = false := by
  refine decide_eq_false fun ha => ?_
  cases ha
  exact h.elim (· rfl) (· rfl)

/-- Every entry of a block's reads is a read of an entry of OUT (R111). -/
theorem eq_rd_of_mem_rdBlock {b : Nat} {o : ScriptOp} (h : o ∈ rdBlock b) :
    ∃ j < b, o = .rd (.named (.out (BitVec.ofNat 8 j))) none := by
  obtain ⟨j, hj, rfl⟩ := List.mem_map.mp h
  exact ⟨j, List.mem_range.mp hj, rfl⟩

/-- A block's reads are `B` operations. -/
@[simp] theorem rdBlock_length (b : Nat) : (rdBlock b).length = b := by
  rw [rdBlock, List.length_map, List.length_range]

/-- The word of a PRESS or RELEASE is not that of a STEP (R101). -/
theorem keyEvent_word_ne_step (note : BitVec 8) :
    cmdWord 0x1#4 note ≠ 0x30000000#32 ∧ cmdWord 0x2#4 note ≠ 0x30000000#32 := by
  revert note; decide

/-- The batch issues one STEP a block (R342). -/
theorem Batch.countP_isStep (x : Batch) (b : Nat) : (x.events b).countP Event.isStep = x.n / b := by
  have hreads : (rdBlock b).countP (fun o => Event.isStep (.access o.assemble)) = 0 :=
    List.countP_eq_zero.mpr fun o ho => by
      obtain ⟨j, -, rfl⟩ := eq_rd_of_mem_rdBlock ho
      exact ne_true_of_eq_false (Event.isStep_eq_false (.inl (readKey_ne_writeKey _ .cmd)))
  rw [Batch.countP_events (q := Event.isStep) (by decide) (by decide)
    (fun r v hr => Event.isStep_eq_false (.inl fun hkey => hr (writeKey_inj (r' := .cmd) hkey)))
    (fun note => Event.isStep_eq_false (.inr (keyEvent_word_ne_step note).1))
    (fun note => Event.isStep_eq_false (.inr (keyEvent_word_ne_step note).2)), List.countP_cons_of_pos (by decide), hreads,
    Nat.mul_one]

/-- The batch reads `B` samples a block (R342). -/
theorem Batch.countP_reads (x : Batch) (b : Nat) : (x.events b).countP Event.reads = x.n / b * b := by
  have hreads : (rdBlock b).countP (fun o => Event.reads (.access o.assemble)) = b := by
    rw [List.countP_eq_length.mpr, rdBlock_length]
    intro o ho
    obtain ⟨j, -, rfl⟩ := eq_rd_of_mem_rdBlock ho
    exact Access.isRead_readKey 4 _ 0
  rw [Batch.countP_events (q := Event.reads) rfl rfl (fun r v _ => Access.isRead_writeKey 4 r v)
    (fun note => Access.isRead_writeKey 4 .cmd _) (fun note => Access.isRead_writeKey 4 .cmd _),
    List.countP_cons_of_neg (by decide), hreads]

/-- The operations of the batch that read are the reads of its blocks. -/
theorem Batch.mem_rdBlock_of_isRead {x : Batch} {b : Nat} {o : ScriptOp} (h : o ∈ x.ops b)
    (hread : o.assemble.isRead = true) : o ∈ rdBlock b := by
  have hwrite {r : Reg} {d : Word} (hw : Access.isRead ⟨4, writeKey r, d⟩ = true) : o ∈ rdBlock b := by
    rw [Access.isRead_writeKey] at hw
    cases hw
  rcases List.mem_append.mp h with hset | hblock
  · obtain ⟨r, v, -, rfl⟩ := Batch.eq_wr_of_mem_setters hset
    exact hwrite hread
  · rcases mem_batchBlocks_cases hblock with ⟨note, rfl⟩ | ⟨note, rfl⟩ | rfl | hmem
    · exact hwrite hread
    · exact hwrite hread
    · exact hwrite hread
    · exact hmem

/-- Every read of the batch is one of `OUT[0]` to `OUT[B-1]` (R341). -/
theorem Batch.key_of_isRead {x : Batch} {b : Nat} (hb : b ≤ 256) {a : Access} (h : Event.access a ∈ x.events b)
    (hread : a.isRead = true) : ∃ j, j < b ∧ a.key = BitVec.ofNat 13 (0x0800 + 4 * j) := by
  simp only [Batch.events, assemble, List.mem_cons, List.mem_map, reduceCtorEq, false_or] at h
  obtain ⟨o, ho, heq⟩ := h
  cases heq
  obtain ⟨j, hj, rfl⟩ := eq_rd_of_mem_rdBlock (Batch.mem_rdBlock_of_isRead ho hread)
  have hindex : (BitVec.ofNat 8 j).toNat = j := Nat.mod_eq_of_lt (by omega)
  have hoffset := Reg.out_offset_toNat (BitVec.ofNat 8 j)
  rw [hindex] at hoffset
  exact ⟨j, hj, readKey_eq_ofNat hoffset⟩

/-! ### The host buffer (R341, R342) -/

section
variable (x : Batch) {b : Nat} {reads : List Word} {out : List Sample} (hreads : reads.length = x.n / b * b)
include hreads

/-- Where every sample was read, the buffer begins with all the reads. -/
theorem Batch.buffer_eq :
    x.buffer b reads out = reads.map (fun w => w.setWidth 16) ++ out.drop (x.n / b * b) := by
  rw [Batch.buffer, List.take_of_length_le hreads.le]
  simp only [BitVec.setWidth_eq_extractLsb' (show 16 ≤ 32 by decide)]

/-- The buffer keeps its size: it holds at least the whole blocks. -/
theorem Batch.buffer_length (hout : out.length = x.n) : (x.buffer b reads out).length = x.n := by
  have hle := Nat.div_mul_le_self x.n b
  rw [x.buffer_eq hreads, List.length_append, List.length_map, List.length_drop, hreads, hout]
  omega

/-- From the whole blocks on the buffer is as it was. -/
theorem Batch.buffer_getElem?_of_le {k : Nat} (hk : x.n / b * b ≤ k) : (x.buffer b reads out)[k]? = out[k]? := by
  have hlen : (reads.map fun w => w.setWidth 16).length = x.n / b * b := by rw [List.length_map, hreads]
  rw [x.buffer_eq hreads, List.getElem?_append_right (by rwa [hlen]), hlen, List.getElem?_drop, Nat.add_sub_of_le hk]

/-- In the whole blocks the buffer holds what was read. -/
theorem Batch.buffer_getElem?_of_lt {k : Nat} (hk : k < x.n / b * b) :
    (x.buffer b reads out)[k]? = (reads[k]?).map (fun w => w.setWidth 16) := by
  rw [x.buffer_eq hreads, List.getElem?_append_left (by rwa [List.length_map, hreads]), List.getElem?_map]

end

/-- On a legal block the batch completes and its reads answer the whole blocks. -/
theorem Batch.runEvents_events (x : Batch) {c : Config} (hc : c.Legal) :
    ∃ t, runEvents (x.events c.blockSize) (State.resetWith c) = .next t ∧
      t.reads.length = x.n / c.blockSize * c.blockSize := by
  obtain ⟨t, hrun, hreads⟩ := runEvents_reset_wordAccesses (s := State.resetWith c) hc
    fun _ => isWordAccess_of_mem_assemble (ops := x.ops c.blockSize)
  rw [← Batch.events, x.countP_reads] at hreads
  rw [← Batch.events] at hrun
  exact ⟨t, hrun, hreads.trans (Nat.zero_add _)⟩

/-- Where the run of its events completes, the batch leaves the buffer of the reads. -/
theorem Batch.run_eq {x : Batch} {c : Config} {t : State}
    (h : runEvents (x.events c.blockSize) (State.resetWith c) = .next t) (out : List Sample) :
    x.run c out = some (x.buffer c.blockSize t.reads out) := by
  rw [Batch.run, h]

/-- Settles O58: the batch is a reset, settings and `floor(n / B)` blocks of one STEP and `B` reads of OUT; every word
access of a running legal block completes and answers exactly if it is a read, so the whole blocks are read. -/
theorem batchTruncatesToWholeBlocks : Obligations.BatchTruncatesToWholeBlocks := by
  refine ⟨fun x b _ hb => ⟨x.countP_isStep b, x.countP_reads b, ?keys, ?buffer⟩, ?run⟩
  case keys =>
    intro a ha hread
    have hisRead : a.isRead = true := congrArg (!·) hread
    exact Batch.key_of_isRead hb ha hisRead
  case buffer =>
    exact fun reads out hreads hout =>
      ⟨x.buffer_length hreads hout, fun _ => x.buffer_getElem?_of_le hreads, fun _ => x.buffer_getElem?_of_lt hreads⟩
  case run =>
    intro x c out hc hout
    obtain ⟨t, hrun, hreads⟩ := x.runEvents_events hc
    exact ⟨t, _, hrun, hreads, Batch.run_eq hrun out, x.buffer_length hreads hout,
      fun _ => x.buffer_getElem?_of_le hreads, fun _ => x.buffer_getElem?_of_lt hreads⟩

end Sys2Proof.Machine

namespace Sys2Proof.Machine

/-! ### Raising and clearing errors (R362, R366, R368) -/

/-- Where no error stands, raising one records it in full and leaves MULTI (R368). -/
theorem State.raise_of_no_error {s : State} (h : s.error.err = false) (x : Err) (a : Offset) (d : Word) :
    s.raise x a d = { s with error := ⟨true, s.error.multi, some x, a, d⟩, faultMark := true } := by
  rw [State.raise, ErrState.record_first h]

/-- Where an error stands, raising another sets MULTI and keeps the information of the first (R368). -/
theorem State.raise_of_error {s : State} (h : s.error.err = true) (x : Err) (a : Offset) (d : Word) :
    s.raise x a d = { s with error := { s.error with multi := true }, faultMark := true } := by
  rw [State.raise, ErrState.record_later h]

/-- After a clear, an error raised is again the first, with MULTI zero (R366, R368). -/
theorem State.raise_clearErrors (s : State) (x : Err) (a : Offset) (d : Word) :
    s.clearErrors.raise x a d = { s with error := ⟨true, false, some x, a, d⟩, faultMark := true } :=
  State.raise_of_no_error (s := s.clearErrors) rfl x a d

/-- A STATUS write with bit 0 set clears the errors (R366). -/
theorem exec_wrStatus_of_set {d : Word} (h : d.getLsbD 0 = true) (s : State) :
    exec (.wrStatus d) s = .next s.clearErrors :=
  congrArg Host.Outcome.next (if_pos h)

/-- A STATUS write with bit 0 clear does nothing (R366). -/
theorem exec_wrStatus_of_clear {d : Word} (h : ¬ d.getLsbD 0 = true) (s : State) :
    exec (.wrStatus d) s = .next s :=
  congrArg Host.Outcome.next (if_neg h)

/-- Settles O11: bit 0 alone chooses between the clear and the state as it is, and STATUS is decoded whatever the word. -/
theorem statusWriteClearsErrors : Obligations.StatusWriteClearsErrors := by
  refine fun s d => ⟨?effect, decode_writeKey .status d⟩
  case effect =>
    split
    case isTrue h => exact exec_wrStatus_of_set h s
    case isFalse h => exact exec_wrStatus_of_clear h s

/-- Settles O21: a later error, a first error, and an error after the clear of a STATUS write. -/
theorem firstErrorIsKept : Obligations.FirstErrorIsKept := by
  refine fun s x a d => ⟨fun h => State.raise_of_error h x a d, fun h => State.raise_of_no_error h x a d, ?afterClear⟩
  case afterClear =>
    intro w t hw ht
    obtain rfl : s.clearErrors = t := Host.Outcome.next.inj ((exec_wrStatus_of_set hw s).symm.trans ht)
    exact s.raise_clearErrors x a d

end Sys2Proof.Machine

namespace Sys2Proof

/-! ### The decoder undoes the encoder (R100, R101, R107) -/

/-- The three fields of a command word (R101). -/
theorem cmdWord_fields (op : BitVec 4) (note : BitVec 8) :
    (cmdWord op note).extractLsb' 28 4 = op ∧ (cmdWord op note).extractLsb' 8 20 = 0 ∧
      (cmdWord op note).extractLsb' 0 8 = note := by
  refine ⟨?op, ?rsv, ?note⟩
  case op =>
    rw [cmdWord, BitVec.append_assoc]
    exact BitVec.extractLsb'_append_eq_left (w' := 28)
  case rsv =>
    rw [cmdWord, BitVec.extractLsb'_append_eq_of_le (by decide)]
    exact BitVec.extractLsb'_append_eq_right (w' := 20)
  case note => exact BitVec.extractLsb'_append_eq_right

/-- The word of a PRESS with a legal note is decoded to it. -/
theorem decodeCmd_cmdWord_press {note : BitVec 8} (h : note.toNat < 128) :
    decodeCmd (cmdWord 0x1#4 note) = .ok (.press note) := by
  obtain ⟨hop, hrsv, hnote⟩ := cmdWord_fields 0x1#4 note
  rw [decodeCmd_press (congrArg BitVec.toNat hop) hrsv (by rwa [hnote]), hnote]

/-- The word of a RELEASE with a legal note is decoded to it. -/
theorem decodeCmd_cmdWord_release {note : BitVec 8} (h : note.toNat < 128) :
    decodeCmd (cmdWord 0x2#4 note) = .ok (.release note) := by
  obtain ⟨hop, hrsv, hnote⟩ := cmdWord_fields 0x2#4 note
  rw [decodeCmd_release (congrArg BitVec.toNat hop) hrsv (by rwa [hnote]), hnote]

/-- The decoder undoes the encoder on a well-formed operation: at its own register and direction. -/
theorem decode_encode {i : Instr} (hwf : WellFormed i) : decode (encodeKey i) (encodeData i) = .ok i := by
  cases i with
  | nop => exact (decode_cmdKey _).trans (decodeCmd_nop rfl rfl)
  | step => exact (decode_cmdKey _).trans (decodeCmd_step rfl rfl)
  | press note => exact (decode_cmdKey _).trans (decodeCmd_cmdWord_press (of_decide_eq_true hwf))
  | release note => exact (decode_cmdKey _).trans (decodeCmd_cmdWord_release (of_decide_eq_true hwf))
  | rdCmd | rdStatus | rdErraddr | rdErrdata | rdConfig | rdCurnote | rdAttack | rdDecay | rdSustain | rdRelease
  | rdModfreq | rdModdepth | rdEnvPhase | rdEnvLevel | rdEnvCount | rdEnvLen | rdEnvTarget | rdEnvInc | rdVoiceFtw
  | rdVoicePhase | rdModPhase | rdFtab _ | rdOut _ => exact decode_readKey _ _
  | _ => exact decode_writeKey _ _

/-- The decoder on a joined operation word (R107). -/
@[simp] theorem decodeWord_opWord (k : Key) (d : Word) : decodeWord (opWord k d) = decode k d := by
  rw [decodeWord, opWord_key, opWord_data]

/-- Settles O30: an operation's key selects its own register and direction, and a command word its own command. -/
theorem decodeEncodeRoundTrip : Obligations.DecodeEncodeRoundTrip := by
  intro i hwf
  exact ⟨decode_encode hwf, (decodeWord_opWord _ _).trans (decode_encode hwf)⟩

/-! ### The encoder undoes the decoder -/

/-- The bit above the offset and the offset make up a key (R100). -/
theorem writeBit_append_keyOffset (k : Key) : k.extractLsb' 12 1 ++ keyOffset k = k :=
  BitVec.extractLsb'_append_extractLsb' (w := 1)

/-- A key at a register's offset is the register's write key or read key, by its write bit (R100). -/
theorem key_eq_of_offset {k : Key} {r : Reg} (h : r.offset = keyOffset k) :
    k = if keyWrites k then writeKey r else readKey r := by
  have hbit : k.extractLsb' 12 1 = BitVec.ofBool (keyWrites k) := by
    ext j hj
    obtain rfl : j = 0 := by omega
    simp [keyWrites]
  conv_lhs => rw [← writeBit_append_keyOffset k, hbit, ← h]
  cases keyWrites k <;> rfl

/-- The decoder accepts the write keys and the read keys of the map, and nothing else (R106). -/
theorem decode_ok_iff {k : Key} {d : Word} {i : Instr} :
    decode k d = .ok i ↔
      ∃ r, (k = writeKey r ∧ decodeWrite r d = .ok i) ∨ (k = readKey r ∧ i = decodeRead r) := by
  constructor
  · intro h
    by_cases ha : k.toNat % 4 = 0
    case neg => rw [decode_of_misaligned ha] at h; cases h
    case pos =>
      cases hreg : regAt (keyOffset k) with
      | none => rw [decode_of_regAt_none ha hreg] at h; cases h
      | some r =>
        have hk := key_eq_of_offset (offset_of_regAt ((keyOffset_aligned_iff k).mpr ha) hreg)
        rw [decode_of_regAt_some ha hreg] at h
        split at h
        case isTrue hw => exact ⟨r, .inl ⟨by rwa [if_pos hw] at hk, h⟩⟩
        case isFalse hw => cases h; exact ⟨r, .inr ⟨by rwa [if_neg hw] at hk, rfl⟩⟩
  · rintro ⟨r, ⟨rfl, h⟩ | ⟨rfl, rfl⟩⟩
    · exact (decode_writeKey r d).trans h
    · exact decode_readKey r d

/-- What a read of a register decodes to is encoded as that read. -/
theorem encodeKey_decodeRead (r : Reg) : encodeKey (decodeRead r) = readKey r := by
  cases r <;> rfl

/-- Every read is well-formed. -/
theorem wellFormed_decodeRead (r : Reg) : WellFormed (decodeRead r) := by
  cases r <;> rfl

/-- A word is put together again from its opcode and the 28 bits below it (R101). -/
theorem word_eq_op_append (d : Word) : d.extractLsb' 28 4 ++ d.extractLsb' 0 28 = d :=
  BitVec.extractLsb'_append_extractLsb' (w := 4)

/-- The 28 bits below the opcode are the reserved bits and the note (R101). -/
theorem rsv_append_note (d : Word) : d.extractLsb' 8 20 ++ d.extractLsb' 0 8 = d.extractLsb' 0 28 :=
  BitVec.extractLsb'_append_extractLsb'_eq_extractLsb' (Nat.zero_add 8).symm

/-- A word without reserved bits is the command word of its opcode and its note (R101). -/
theorem cmdWord_eq_of_rsv {d : Word} {op : BitVec 4} (hop : (d.extractLsb' 28 4).toNat = op.toNat)
    (hrsv : d.extractLsb' 8 20 = 0) : cmdWord op (d.extractLsb' 0 8) = d := by
  conv_rhs => rw [← word_eq_op_append d, ← rsv_append_note, hrsv, BitVec.eq_of_toNat_eq hop]
  exact BitVec.append_assoc

/-- A word that is its opcode alone is the command word of that opcode with note 0 (R101). -/
theorem cmdWord_eq_of_low {d : Word} {op : BitVec 4} (hop : (d.extractLsb' 28 4).toNat = op.toNat)
    (hlow : d.extractLsb' 0 28 = 0) : cmdWord op 0 = d := by
  conv_rhs => rw [← word_eq_op_append d, hlow, BitVec.eq_of_toNat_eq hop]
  exact BitVec.append_assoc

/-- A command word that passes the checks of R105 is the well-formed encoding of its command. -/
theorem encode_of_decodeCmd_ok {d : Word} {i : Instr} (h : decodeCmd d = .ok i) :
    WellFormed i ∧ encodeKey i = writeKey .cmd ∧ encodeData i = d := by
  simp only [decodeCmd] at h
  split_ifs at h with hop hplain hnoted hnote hnop hpress hrelease <;> cases h
  · exact ⟨rfl, rfl, cmdWord_eq_of_low hnop (not_not.mp fun hlow => hplain ⟨.inl hnop, hlow⟩)⟩
  · have hrsv := not_not.mp fun hrsv => hnoted ⟨.inl hpress, hrsv⟩
    have hlegal := Nat.lt_of_not_ge fun hge => hnote ⟨.inl hpress, hge⟩
    exact ⟨decide_eq_true hlegal, rfl, cmdWord_eq_of_rsv hpress hrsv⟩
  · have hrsv := not_not.mp fun hrsv => hnoted ⟨.inr hrelease, hrsv⟩
    have hlegal := Nat.lt_of_not_ge fun hge => hnote ⟨.inr hrelease, hge⟩
    exact ⟨decide_eq_true hlegal, rfl, cmdWord_eq_of_rsv hrelease hrsv⟩
  · have hstep : (d.extractLsb' 28 4).toNat = 3 := by omega
    exact ⟨rfl, rfl, cmdWord_eq_of_low hstep (not_not.mp fun hlow => hplain ⟨.inr hstep, hlow⟩)⟩

/-- A write that decodes is the well-formed encoding of its operation. -/
theorem encode_of_decodeWrite_ok {r : Reg} {d : Word} {i : Instr} (h : decodeWrite r d = .ok i) :
    WellFormed i ∧ encodeKey i = writeKey r ∧ encodeData i = d := by
  cases r with
  | cmd => exact encode_of_decodeCmd_ok h
  | _ => cases h; exact ⟨rfl, rfl, rfl⟩

/-- Settles O31: what decodes is a write or a read of a register, and either is encoded at that register's key. -/
theorem encodeDecodeRoundTrip : Obligations.EncodeDecodeRoundTrip := by
  intro k d i h
  obtain ⟨r, ⟨rfl, hwrite⟩ | ⟨rfl, rfl⟩⟩ := decode_ok_iff.mp h
  · obtain ⟨hwf, hkey, hdata⟩ := encode_of_decodeWrite_ok hwrite
    exact ⟨hwf, hkey, fun _ => hdata⟩
  · have hread : ¬ (readKey r).getLsbD 12 = true := ne_true_of_eq_false (keyWrites_readKey r)
    exact ⟨wellFormed_decodeRead r, encodeKey_decodeRead r, fun hw => absurd hw hread⟩

end Sys2Proof

namespace Sys2Proof

/-! ### The decoder and the operation map (R107) -/

/-- An operation word is its key and its data (R107). -/
theorem opWord_of_fields (w : OpWord) : opWord (w.extractLsb' 32 13) (w.extractLsb' 0 32) = w :=
  BitVec.extractLsb'_append_extractLsb' (w := 13)

/-- A write that decodes lies in the row of its operation. -/
theorem opWord_writeKey_in_row {r : Reg} {d : Word} {i : Instr} (h : decodeWrite r d = .ok i) :
    opWord (writeKey r) d &&& i.rowMask = i.rowMatch := by
  cases r with
  | cmd =>
    obtain ⟨hwf, -, rfl⟩ := encode_of_decodeCmd_ok h
    rcases decodeCmd_ok_cases h with rfl | ⟨note, rfl⟩ | ⟨note, rfl⟩ | rfl
    · exact Laws.EncodesInRow.nop hwf
    · exact Laws.EncodesInRow.press note hwf
    · exact Laws.EncodesInRow.release note hwf
    · exact Laws.EncodesInRow.step hwf
  | ftab i => cases h; exact Laws.EncodesInRow.wrRoFtab i d rfl
  | out j => cases h; exact Laws.EncodesInRow.wrRoOut j d rfl
  | _ => cases h; exact Laws.opWord_in_key_row (writeKey _) d rfl rfl

/-- A read lies in its row whatever the data, which the row leaves free. -/
theorem opWord_readKey_in_row (r : Reg) (d : Word) :
    opWord (readKey r) d &&& (decodeRead r).rowMask = (decodeRead r).rowMatch := by
  cases r with
  | ftab i => exact Laws.opWord_in_window_row _ _ _ _ (Laws.ftab_key_in_row 0#1 i) rfl rfl
  | out j => exact Laws.opWord_in_window_row _ _ _ _ (Laws.out_key_in_row 0#1 j) rfl rfl
  | _ => exact Laws.opWord_in_key_row (readKey _) d rfl rfl

/-- A word that decodes lies in the row of its operation. -/
theorem in_row_of_decode {k : Key} {d : Word} {i : Instr} (h : decode k d = .ok i) :
    opWord k d &&& i.rowMask = i.rowMatch := by
  obtain ⟨r, ⟨rfl, hwrite⟩ | ⟨rfl, rfl⟩⟩ := decode_ok_iff.mp h
  · exact opWord_writeKey_in_row hwrite
  · exact opWord_readKey_in_row r d

/-- A row's mask and match are those of its key and those of its data. -/
theorem fields_of_row {k m q : Key} {d n p : Word} (h : opWord k d &&& (m ++ n) = q ++ p) :
    k &&& m = q ∧ d &&& n = p := by
  have hjoin : opWord (k &&& m) (d &&& n) = opWord q p := (Laws.opWord_and k m d n).symm.trans h
  constructor
  · rw [← opWord_key (k &&& m) (d &&& n), hjoin, opWord_key]
  · rw [← opWord_data (k &&& m) (d &&& n), hjoin, opWord_data]

section
variable {k : Key} {d : Word}

/-- In a row that fixes the key, the key is the operation's. -/
theorem key_of_key_row {i : Instr} {w : BitVec 1} {r : Reg} (h : opWord k d &&& i.rowMask = i.rowMatch)
    (hmask : i.rowMask = 0x1FFF#13 ++ 0#32) (hkey : encodeKey i = w ++ r.offset)
    (hmatch : i.rowMatch = w ++ r.offset ++ 0#32) : k = encodeKey i := by
  rw [hmask, hmatch] at h
  rw [hkey]
  exact (BitVec.and_allOnes (x := k)).symm.trans (fields_of_row h).1

/-- A row that fixes every bit holds one word. -/
theorem eq_of_full_row {q : Key} {p : Word} {r : OpWord} (h : opWord k d &&& 0x1FFFFFFFFFFF#45 = r) (hr : r = q ++ p) :
    k = q ∧ d = p := by
  obtain ⟨hk, hd⟩ := fields_of_row (m := 0x1FFF#13) (n := 0xFFFFFFFF#32) (h.trans hr)
  exact ⟨BitVec.and_allOnes.symm.trans hk, BitVec.and_allOnes.symm.trans hd⟩

/-- A field that a row's data mask covers is the field of the row's match. -/
theorem extractLsb'_of_data_row {n p : Word} (h : d &&& n = p) {start len : Nat}
    (hn : n.extractLsb' start len = BitVec.allOnes len) : d.extractLsb' start len = p.extractLsb' start len := by
  rw [← h, BitVec.extractLsb'_and, hn, BitVec.and_allOnes]

/-- The fields of the match of a row of PRESS or RELEASE: the opcode, the reserved bits and the top bit of the note. -/
theorem fields_of_noted_match (op : BitVec 4) :
    (op ++ 0#28).extractLsb' 28 4 = op ∧ (op ++ 0#28).extractLsb' 8 20 = 0#20 ∧ (op ++ 0#28).extractLsb' 7 1 = 0#1 := by
  revert op; decide

/-- The fields of the data of a row of PRESS or RELEASE: the opcode, no reserved bits, and a legal note (R101, R103). -/
theorem fields_of_noted_row {op : BitVec 4} (h : d &&& 0xFFFFFF80#32 = op ++ 0#28) :
    d.extractLsb' 28 4 = op ∧ d.extractLsb' 8 20 = 0 ∧ (d.extractLsb' 0 8).toNat < 128 := by
  obtain ⟨hop, hrsv, htop⟩ := fields_of_noted_match op
  refine ⟨(extractLsb'_of_data_row h rfl).trans hop, (extractLsb'_of_data_row h rfl).trans hrsv, ?note⟩
  case note =>
    have hbit := congrArg BitVec.toNat ((extractLsb'_of_data_row h rfl).trans htop)
    rw [BitVec.extractLsb'_toNat, Nat.shiftRight_eq_div_pow, BitVec.toNat_ofNat] at hbit
    rw [BitVec.extractLsb'_toNat, Nat.shiftRight_zero]
    omega

/-- The fields of the match of an OUT row (R107): the low bits, the window and the write bit. -/
theorem fields_of_out_match (w : BitVec 1) :
    (w ++ 0x800#12).extractLsb' 0 2 = 0#2 ∧ (w ++ 0x800#12).extractLsb' 10 2 = 0b10#2 ∧
      (w ++ 0x800#12).extractLsb' 12 1 = w := by
  revert w; decide

/-- A key of an OUT row (R107) is the one of the entry its bits 9:2 name. -/
theorem key_of_out_row {w : BitVec 1} (h : k &&& 0x1C03#13 = w ++ 0x800#12) :
    k = w ++ (Reg.out (k.extractLsb' 2 8)).offset := by
  obtain ⟨hlow, hwindow, htop⟩ := fields_of_out_match w
  rw [← extractLsb'_of_key_row h rfl] at hlow hwindow htop
  rw [← keyOffset_extractLsb' k (by decide)] at hlow hwindow
  have hoffset : (Reg.out (k.extractLsb' 2 8)).offset = keyOffset k := by
    rw [Reg.offset, ← hlow, ← hwindow, ← keyOffset_extractLsb' k (by decide)]
    exact (join_window_fields (keyOffset k) rfl).trans BitVec.extractLsb'_eq_self
  conv_lhs => rw [← writeBit_append_keyOffset k, htop, ← hoffset]

/-- A word that lies in a row decodes to an operation of that row. -/
theorem decode_of_in_row {i : Instr} (h : opWord k d &&& i.rowMask = i.rowMatch) :
    ∃ i', decode k d = .ok i' ∧ i'.rowMask = i.rowMask ∧ i'.rowMatch = i.rowMatch := by
  cases i with
  | nop =>
    obtain ⟨rfl, rfl⟩ := eq_of_full_row (q := 0x1000#13) (p := 0#32) h rfl
    exact ⟨_, (decode_cmdKey _).trans (decodeCmd_nop rfl rfl), rfl, rfl⟩
  | step =>
    obtain ⟨rfl, rfl⟩ := eq_of_full_row (q := 0x1000#13) (p := 0x30000000#32) h rfl
    exact ⟨_, (decode_cmdKey _).trans (decodeCmd_step rfl rfl), rfl, rfl⟩
  | press note =>
    obtain ⟨hk, hd⟩ := fields_of_row (m := 0x1FFF#13) (n := 0xFFFFFF80#32) (q := 0x1000#13) (p := 0x1#4 ++ 0#28) h
    obtain ⟨hop, hrsv, hnote⟩ := fields_of_noted_row hd
    obtain rfl : k = 0x1000#13 := BitVec.and_allOnes.symm.trans hk
    exact ⟨_, (decode_cmdKey d).trans (decodeCmd_press (congrArg BitVec.toNat hop) hrsv hnote), rfl, rfl⟩
  | release note =>
    obtain ⟨hk, hd⟩ := fields_of_row (m := 0x1FFF#13) (n := 0xFFFFFF80#32) (q := 0x1000#13) (p := 0x2#4 ++ 0#28) h
    obtain ⟨hop, hrsv, hnote⟩ := fields_of_noted_row hd
    obtain rfl : k = 0x1000#13 := BitVec.and_allOnes.symm.trans hk
    exact ⟨_, (decode_cmdKey d).trans (decodeCmd_release (congrArg BitVec.toNat hop) hrsv hnote), rfl, rfl⟩
  | rdFtab _ =>
    have hk := (fields_of_row (m := 0x1E03#13) (n := 0#32) (q := 0#1 ++ 0x400#12) (p := 0#32) h).1
    exact ⟨_, decode_of_ftab_key hk d, rfl, rfl⟩
  | wrRoFtab _ _ =>
    have hk := (fields_of_row (m := 0x1E03#13) (n := 0#32) (q := 1#1 ++ 0x400#12) (p := 0#32) h).1
    exact ⟨_, decode_of_ftab_key hk d, rfl, rfl⟩
  | rdOut _ =>
    have hk := (fields_of_row (m := 0x1C03#13) (n := 0#32) (q := 0#1 ++ 0x800#12) (p := 0#32) h).1
    rw [key_of_out_row hk]
    exact ⟨_, decode_readKey (.out _) d, rfl, rfl⟩
  | wrRoOut _ _ =>
    have hk := (fields_of_row (m := 0x1C03#13) (n := 0#32) (q := 1#1 ++ 0x800#12) (p := 0#32) h).1
    rw [key_of_out_row hk]
    exact ⟨_, decode_writeKey (.out _) d, rfl, rfl⟩
  | rdCmd | rdStatus | rdErraddr | rdErrdata | rdConfig | rdCurnote | rdAttack | rdDecay | rdSustain | rdRelease
  | rdModfreq | rdModdepth | rdEnvPhase | rdEnvLevel | rdEnvCount | rdEnvLen | rdEnvTarget | rdEnvInc | rdVoiceFtw
  | rdVoicePhase | rdModPhase =>
    obtain rfl := key_of_key_row h rfl rfl rfl
    exact ⟨_, decode_readKey _ d, rfl, rfl⟩
  | _ =>
    obtain rfl := key_of_key_row h rfl rfl rfl
    exact ⟨_, decode_writeKey _ d, rfl, rfl⟩

end

/-- Settles O32: a word that decodes is a write as its operation is encoded, or a read, whose row leaves the data free;
and a row fixes the key, the window of keys or the command word that its operations decode from. -/
theorem decodeAgreesWithOperationMap : Obligations.DecodeAgreesWithOperationMap := by
  refine ⟨fun w i h => ?inRow, fun w i h => ?decodes⟩
  case inRow => exact opWord_of_fields w ▸ in_row_of_decode h
  case decodes => exact decode_of_in_row ((opWord_of_fields w).symm ▸ h)

end Sys2Proof

namespace Sys2Proof.Machine

/-! ### What an operation can do, said once -/

/-- A write to a settings register stores a value within the register's limit (R300 to R305). -/
inductive Stores (s : State) : Instr → State → Prop
  | attack (d : Word) : Stores s (.wrAttack d) { s with settings := { s.settings with attack := d } }
  | decay (d : Word) : Stores s (.wrDecay d) { s with settings := { s.settings with decay := d } }
  | release (d : Word) : Stores s (.wrRelease d) { s with settings := { s.settings with release := d } }
  | sustain (d : Word) {n : Nat} (h : n ≤ one) : Stores s (.wrSustain d) (s.storeSustain n)
  | modfreq (d : Word) {n : Nat} (h : n ≤ ftwMax) : Stores s (.wrModfreq d) (s.storeModfreq n)
  | moddepth (d : Word) {n : Nat} (h : n ≤ done) : Stores s (.wrModdepth d) (s.storeModdepth n)

/-- What an operation can leave, one case an effect, the failing ones among them. -/
inductive Effect (s : State) : Instr → State → Prop
  | nop : Effect s .nop s
  | press {note : BitVec 8} (h : note.toNat < 128) : Effect s (.press note) (s.cmdPress (noteIndex note))
  | pressOutOfRange (note : BitVec 8) (a : Offset) (d : Word) : Effect s (.press note) (s.raise .noteRange a d)
  | release (note : BitVec 8) : Effect s (.release note) s.voiceRelease
  | releaseOther (note : BitVec 8) : Effect s (.release note) s
  | releaseOutOfRange (note : BitVec 8) (a : Offset) (d : Word) : Effect s (.release note) (s.raise .noteRange a d)
  | step : Effect s .step s.cmdStep
  | statusClear {d : Word} (h : d.getLsbD 0 = true) : Effect s (.wrStatus d) s.clearErrors
  | statusKeep (d : Word) : Effect s (.wrStatus d) s
  | stores {i : Instr} {u : State} (h : Stores s i u) : Effect s i u
  | clamps {i : Instr} {u : State} (h : Stores s i u) (a : Offset) (d : Word) : Effect s i (u.raise .clamp a d)
  | read (r : Reg) : Effect s (decodeRead r) (s.answer (readValue s r))
  | readUnmapped {j : BitVec 8} (h : s.cfg.blockSize ≤ j.toNat) :
      Effect s (.rdOut j) (rejectRead .badAddr (Reg.out j).offset s)
  | readOnly {r : Reg} {i : Instr} {d : Word} (hr : r.isReadOnly = true) (hi : decodeWrite r d = .ok i) (x : Err) :
      Effect s i (s.raise x r.offset d)

/-- A clamped setter stores a value within its limit, and records a larger operand (R104, R363). -/
theorem Effect.noteClamp {s : State} {i : Instr} {limit : Nat} {d : Word} {store : Nat → State}
    (h : ∀ {n}, n ≤ limit → Stores s i (store n)) (r : Reg) :
    Effect s i (noteClamp limit r d (store (clampTo limit d))) := by
  have hstores : Stores s i (store (clampTo limit d)) := h (Nat.min_le_right _ _)
  rcases noteClamp_cases limit r d (store (clampTo limit d)) with ⟨-, hclamp⟩ | ⟨-, hclamp⟩ <;> rw [hclamp]
  · exact .stores hstores
  · exact .clamps hstores _ _

section
variable {r : Reg} {d : Word} {i : Instr} (s : State)

/-- A PRESS completes, whatever its term. -/
theorem exec_press_effect (note : BitVec 8) : ∃ t, exec (.press note) s = .next t ∧ Effect s (.press note) t := by
  by_cases h : note.toNat < 128
  · exact ⟨_, exec_press h s, .press h⟩
  · exact ⟨_, if_neg h, .pressOutOfRange _ _ _⟩

/-- A RELEASE completes, whatever its term. -/
theorem exec_release_effect (note : BitVec 8) : ∃ t, exec (.release note) s = .next t ∧ Effect s (.release note) t := by
  by_cases h : note.toNat < 128
  · refine ⟨_, exec_release h s, ?_⟩
    by_cases hcurrent : noteIndex note = s.curNote
    · rw [State.cmdRelease_curNote hcurrent]
      exact .release note
    · rw [State.cmdRelease_of_ne hcurrent]
      exact .releaseOther note
  · exact ⟨_, if_neg h, .releaseOutOfRange _ _ _⟩

/-- A write to a read-only register completes, in the OUT window whether or not the entry is mapped. -/
theorem exec_readOnly_effect (hr : r.isReadOnly = true) (hi : decodeWrite r d = .ok i) :
    ∃ t, exec i s = .next t ∧ Effect s i t := by
  by_cases hout : ∀ j, r = .out j → j.toNat < s.cfg.blockSize
  · exact ⟨_, exec_of_decodeWrite_readOnly hi hr hout, .readOnly hr hi _⟩
  · push Not at hout
    obtain ⟨j, rfl, hj⟩ := hout
    cases hi
    exact ⟨_, exec_wrRoOut_of_le hj d, .readOnly rfl rfl _⟩

/-- A write to a mapped register completes. -/
theorem exec_write_effect (hi : decodeWrite r d = .ok i) : ∃ t, exec i s = .next t ∧ Effect s i t := by
  cases r with
  | cmd =>
    rcases decodeCmd_ok_cases hi with rfl | ⟨note, rfl⟩ | ⟨note, rfl⟩ | rfl
    · exact ⟨s, rfl, .nop⟩
    · exact exec_press_effect s note
    · exact exec_release_effect s note
    · exact ⟨_, rfl, .step⟩
  | status =>
    cases hi
    by_cases h : d.getLsbD 0 = true
    · exact ⟨_, exec_wrStatus_of_set h s, .statusClear h⟩
    · exact ⟨_, exec_wrStatus_of_clear h s, .statusKeep d⟩
  | attack => cases hi; exact ⟨_, rfl, .stores (.attack d)⟩
  | decay => cases hi; exact ⟨_, rfl, .stores (.decay d)⟩
  | release => cases hi; exact ⟨_, rfl, .stores (.release d)⟩
  | sustain => cases hi; exact ⟨_, exec_wrSustain d s, .noteClamp (.sustain d) _⟩
  | modfreq => cases hi; exact ⟨_, exec_wrModfreq d s, .noteClamp (.modfreq d) _⟩
  | moddepth => cases hi; exact ⟨_, exec_wrModdepth d s, .noteClamp (.moddepth d) _⟩
  | _ => exact exec_readOnly_effect s rfl hi

/-- A read completes, in the OUT window whether or not the entry is mapped. -/
theorem exec_read_effect (r : Reg) : ∃ t, exec (decodeRead r) s = .next t ∧ Effect s (decodeRead r) t := by
  by_cases hout : ∃ j, r = .out j
  · obtain ⟨j, rfl⟩ := hout
    by_cases hj : j.toNat < s.cfg.blockSize
    · exact ⟨_, if_pos (decide_eq_true hj), .read (.out j)⟩
    · exact ⟨_, exec_rdOut_of_le (Nat.le_of_not_lt hj), .readUnmapped (Nat.le_of_not_lt hj)⟩
  · exact ⟨_, exec_decodeRead (not_exists.mp hout) s, .read r⟩

/-- Every operation completes, with one of the effects. A well-formed one is the write or the read of a register that
its encoding decodes to. -/
theorem exec_effect (i : Instr) (s : State) : ∃ t, exec i s = .next t ∧ Effect s i t := by
  by_cases hwf : WellFormed i
  · obtain ⟨r, ⟨-, hi⟩ | ⟨-, rfl⟩⟩ := decode_ok_iff.mp (decode_encode hwf)
    · exact exec_write_effect s hi
    · exact exec_read_effect s r
  · cases i with
    | press note => exact exec_press_effect s note
    | release note => exact exec_release_effect s note
    | _ => exact absurd rfl hwf

end

/-- What an operation leaves is one of the effects. -/
theorem exec_next_cases {i : Instr} {s t : State} (h : exec i s = .next t) : Effect s i t := by
  obtain ⟨u, hu, heffect⟩ := exec_effect i s
  cases hu.symm.trans h
  exact heffect

/-- A running block performs every word transaction to its end. -/
theorem step_goes_of_asks {s : State} {a : Access} {rest : List Event} (h : s.Asks a rest) (hs : a.size = 4) :
    Goes (step s) := by
  obtain ⟨t, ht, -⟩ := performAccess_answering a { s with pending := rest }
  exact ⟨t, (step_eq_performAccess h hs).trans ht⟩

/-- Settles O38: every operation has an effect, and an access that decodes to none is rejected, which goes on too. -/
theorem everyOperationCompletes : Obligations.EveryOperationCompletes := by
  refine ⟨fun i s => ?operation, fun s a rest => step_goes_of_asks⟩
  case operation =>
    obtain ⟨t, ht, -⟩ := exec_effect i s
    exact ⟨t, ht⟩

/-! ### What an operation leaves unchanged (R293, R306) -/

section
variable {s t : State} {i : Instr}

/-- No operation touches the parameters, the reset input, the events or the draws. -/
theorem Effect.outside (h : Effect s i t) :
    t.cfg = s.cfg ∧ t.resetLine = s.resetLine ∧ t.pending = s.pending ∧ t.draws = s.draws := by
  cases h with
  | stores h | clamps h => cases h <;> exact ⟨rfl, rfl, rfl, rfl⟩
  | _ => exact ⟨rfl, rfl, rfl, rfl⟩

/-- A read of a register is no command. -/
@[simp] theorem isCommand_decodeRead (r : Reg) : isCommand (decodeRead r) = false := by
  cases r <;> rfl

/-- A write to a read-only register is no command. -/
theorem isCommand_of_readOnly {r : Reg} {d : Word} (hr : r.isReadOnly = true) (hi : decodeWrite r d = .ok i) :
    isCommand i = false := by
  cases r with
  | cmd | status | attack | decay | sustain | release | modfreq | moddepth => cases hr
  | _ => cases hi; rfl

/-- A setter is no command. -/
theorem Stores.isCommand (h : Stores s i t) : isCommand i = false := by
  cases h <;> rfl

/-- What is no command leaves the voice, its note, the phases and OUT alone. -/
theorem Effect.voice_of_not_command (h : Effect s i t) (hi : isCommand i = false) :
    t.env = s.env ∧ t.voice = s.voice ∧ t.curNote = s.curNote ∧ t.out = s.out ∧
      t.modulator.phase = s.modulator.phase := by
  cases h with
  | press | release | step => cases hi
  | stores h | clamps h => cases h <;> exact ⟨rfl, rfl, rfl, rfl, rfl⟩
  | _ => exact ⟨rfl, rfl, rfl, rfl, rfl⟩

/-- A command changes no setting and answers nothing. -/
theorem Effect.settings_of_command (h : Effect s i t) (hi : isCommand i = true) :
    t.settings = s.settings ∧ t.modulator.ftw = s.modulator.ftw ∧ t.reads = s.reads := by
  cases h with
  | read r => rw [isCommand_decodeRead] at hi; cases hi
  | readUnmapped => cases hi
  | readOnly hr hdecode => rw [isCommand_of_readOnly hr hdecode] at hi; cases hi
  | stores h | clamps h => rw [h.isCommand] at hi; cases hi
  | step => rw [State.cmdStep_eq]; exact ⟨rfl, rfl, rfl⟩
  | _ => exact ⟨rfl, rfl, rfl⟩

/-- Only STEP fills OUT and moves a phase. -/
theorem Effect.out_of_ne_step (h : Effect s i t) (hi : i ≠ .step) :
    t.out = s.out ∧ t.voice.phase = s.voice.phase ∧ t.modulator.phase = s.modulator.phase := by
  cases h with
  | step => exact absurd rfl hi
  | press => exact ⟨rfl, by rw [State.cmdPress_voice, Osc.setFreq_phase], rfl⟩
  | stores h | clamps h => cases h <;> exact ⟨rfl, rfl, rfl⟩
  | _ => exact ⟨rfl, rfl, rfl⟩

/-- Only PRESS changes the current note and retunes the voice. -/
theorem Effect.note_of_ne_press (h : Effect s i t) (hi : ∀ n, i ≠ .press n) :
    t.curNote = s.curNote ∧ t.voice.ftw = s.voice.ftw := by
  cases h with
  | press => exact absurd rfl (hi _)
  | step => rw [State.cmdStep_eq]; exact ⟨rfl, rfl⟩
  | stores h | clamps h => cases h <;> exact ⟨rfl, rfl⟩
  | _ => exact ⟨rfl, rfl⟩

end

/-- Settles O40: each clause is read off the effects of the operations. -/
theorem onlyCommandsMoveTheVoice : Obligations.OnlyCommandsMoveTheVoice := by
  intro i s t h
  have heffect := exec_next_cases h
  exact ⟨heffect.voice_of_not_command, heffect.settings_of_command, heffect.out_of_ne_step, heffect.note_of_ne_press,
    heffect.outside⟩

/-! ### Reads (R36, R77) -/

section
variable {s t : State} {i : Instr}

/-- A read of a register is a read. -/
theorem isRead_decodeRead (r : Reg) : isRead (decodeRead r) = true := by
  rw [isRead, encodeKey_decodeRead, keyWrites_readKey]
  rfl

/-- An operation whose key is a write key is no read. -/
theorem isRead_of_writeKey {r : Reg} (h : encodeKey i = writeKey r) : isRead i = false := by
  rw [isRead, h, keyWrites_writeKey]
  rfl

/-- A setter is no read. -/
theorem Stores.isRead (h : Stores s i t) : isRead i = false := by
  cases h <;> exact isRead_of_writeKey rfl

/-- A read answers one value, and from `OUT[B]` on records an error besides. -/
theorem Effect.of_isRead (h : Effect s i t) (hi : isRead i = true) :
    (∃ v : Word, t = { s with reads := s.reads ++ [v] }) ∨
      ∃ j : BitVec 8, i = .rdOut j ∧ s.cfg.blockSize ≤ j.toNat ∧
        t = { s with error := t.error, faultMark := true, reads := s.reads ++ [0] } := by
  cases h with
  | read r => exact .inl ⟨_, rfl⟩
  | readUnmapped hj => exact .inr ⟨_, rfl, hj, rfl⟩
  | readOnly hr hdecode =>
    obtain ⟨-, hkey, -⟩ := encode_of_decodeWrite_ok hdecode
    rw [isRead_of_writeKey hkey] at hi
    cases hi
  | stores h | clamps h => rw [h.isRead] at hi; cases hi
  | _ => rw [isRead_of_writeKey rfl] at hi; cases hi

/-- Only a read answers. -/
theorem Effect.reads_of_not_isRead (h : Effect s i t) (hi : isRead i = false) : t.reads = s.reads := by
  cases h with
  | read r => rw [isRead_decodeRead] at hi; cases hi
  | @readUnmapped j => cases (isRead_decodeRead (.out j)).symm.trans hi
  | stores h | clamps h => cases h <;> rfl
  | _ => rfl

end

/-- Settles O41: each clause is read off the effects of the operations. -/
theorem readsHaveNoSideEffect : Obligations.ReadsHaveNoSideEffect := by
  intro i s t h
  have heffect := exec_next_cases h
  exact ⟨heffect.of_isRead, heffect.reads_of_not_isRead⟩

/-- A transaction changes no parameter. -/
theorem performAccess_cfg {a : Access} {s t : State} (h : performAccess a s = .next t) : t.cfg = s.cfg := by
  obtain ⟨u, hu, hanswering⟩ := performAccess_answering a s
  cases hu.symm.trans h
  exact hanswering.cfg

/-- No event changes a parameter. -/
theorem performEvent_cfg {ev : Event} {s t : State} (h : performEvent ev s = .next t) : t.cfg = s.cfg := by
  rcases performEvent_next_cases h with ⟨a, -, -, -, hperform⟩ | ⟨-, rfl⟩ | ⟨-, rfl⟩ | ⟨-, rfl⟩
  · exact performAccess_cfg hperform
  · rfl
  · rcases s.releaseReset_cases with ⟨-, hrelease⟩ | ⟨-, hrelease⟩ <;> rw [hrelease]
  · rfl

/-- Settles O39: an idle block stays as it is, and no event changes a parameter. -/
theorem parametersAreConstant : Obligations.ParametersAreConstant := by
  intro s t h
  obtain ⟨-, ⟨-, rfl⟩ | ⟨ev, rest, -, hevent⟩⟩ := step_next_cases h
  · rfl
  · exact performEvent_cfg (s := { s with pending := rest }) hevent

/-! ### The error state (R41, R362, R366) -/

/-- What an operation or a rejected access does to the error state: nothing, the record of an error with the fault mark,
or the clear of a STATUS write. -/
inductive ErrorEffect (s t : State) (clears : Prop) : Prop
  | kept (herror : t.error = s.error) (hmark : t.faultMark = s.faultMark)
  | recorded (x : Err) (a : Offset) (d : Word) (herror : t.error = s.error.record x a d) (hmark : t.faultMark = true)
  | cleared (h : clears) (herror : t.error = ErrState.clear) (hmark : t.faultMark = s.faultMark)

section
variable {s t : State} {i : Instr} {clears : Prop}

/-- Only a STATUS write with bit 0 set clears the error state. -/
theorem Effect.error (h : Effect s i t) :
    ErrorEffect s t (∃ d : Word, i = .wrStatus d ∧ d.getLsbD 0 = true) := by
  cases h with
  | pressOutOfRange | releaseOutOfRange | readOnly | readUnmapped => exact .recorded _ _ _ rfl rfl
  | clamps h => cases h <;> exact .recorded _ _ _ rfl rfl
  | stores h => cases h <;> exact .kept rfl rfl
  | statusClear hd => exact .cleared ⟨_, rfl, hd⟩ rfl rfl
  | _ => exact .kept rfl rfl

/-- A transaction clears the error state only if it is a STATUS write with bit 0 set. -/
theorem performAccess_error {a : Access} (h : performAccess a s = .next t) :
    ErrorEffect s t (a.key = 0x1004#13 ∧ a.data.getLsbD 0 = true) := by
  rcases performAccess_next_cases h with ⟨i, hdecode, hexec⟩ | ⟨x, -, rfl⟩
  · rcases (exec_next_cases hexec).error with ⟨herror, hmark⟩ | ⟨x, a, d, herror, hmark⟩ | ⟨⟨d, rfl, hd⟩, herror, hmark⟩
    · exact .kept herror hmark
    · exact .recorded x a d herror hmark
    · obtain ⟨-, hkey, hdata⟩ := encodeDecodeRoundTrip _ _ _ hdecode
      have hwrites : a.key.getLsbD 12 = true := hkey ▸ keyWrites_writeKey .status
      exact .cleared ⟨hkey.symm, hdata hwrites ▸ hd⟩ herror hmark
  · rcases rejectAccess_cases x a s with ⟨-, hreject⟩ | ⟨-, hreject⟩ <;> rw [hreject] <;>
      exact .recorded _ _ _ rfl rfl

/-- ERR goes away only by a clear. -/
theorem ErrorEffect.clears_of_err (h : ErrorEffect s t clears) (hs : s.error.err = true) (ht : t.error.err = false) :
    clears := by
  cases h with
  | kept herror => rw [herror, hs] at ht; cases ht
  | recorded x a d herror => rw [herror, ErrState.record_err] at ht; cases ht
  | cleared h => exact h

/-- The fault mark stays. -/
theorem ErrorEffect.faultMark_stays (h : ErrorEffect s t clears) (hs : s.faultMark = true) : t.faultMark = true := by
  cases h with
  | kept _ hmark | cleared _ _ hmark => exact hmark.trans hs
  | recorded _ _ _ _ hmark => exact hmark

/-- Where a flag that reset clears is set anew, the fault mark is set. -/
theorem ErrorEffect.faultMark_of_flag (h : ErrorEffect s t clears) {flag : ErrState → Bool}
    (hclear : flag ErrState.clear = false) (ht : flag t.error = true) (hs : flag s.error = false) :
    t.faultMark = true := by
  cases h with
  | kept herror => rw [herror, hs] at ht; cases ht
  | recorded _ _ _ _ hmark => exact hmark
  | cleared _ herror => rw [herror, hclear] at ht; cases ht

end

/-- Settles O27: a transaction takes ERR away only as the STATUS write with bit 0 set; what else does is reset or a loss
of power. -/
theorem errStaysUntilCleared : Obligations.ErrStaysUntilCleared := by
  intro s t h hs ht
  obtain ⟨-, ⟨-, rfl⟩ | ⟨ev, rest, hpending, hevent⟩⟩ := step_next_cases h
  · rw [hs] at ht; cases ht
  · refine ⟨ev, rest, hpending, ?_⟩
    rcases performEvent_next_cases hevent with
      ⟨a, rfl, hreleased, hsize, hperform⟩ | ⟨hreset, -⟩ | ⟨-, rfl⟩ | ⟨rfl, -⟩
    · obtain ⟨hkey, hdata⟩ := (performAccess_error hperform).clears_of_err hs ht
      exact .inl ⟨hreleased, a, rfl, hsize, hkey, hdata⟩
    · exact .inr (hreset.imp_right .inl)
    · rcases State.releaseReset_cases { s with pending := rest } with ⟨-, hrelease⟩ | ⟨-, hrelease⟩ <;>
        rw [hrelease, hs] at ht <;> cases ht
    · exact .inr (.inr (.inr rfl))

/-- What a step does to the error state, reset being a clear; a loss of power leaves the fault mark alone. -/
theorem step_error {s t : State} (h : step s = .next t) :
    (t.resetLine = .neverReset ∧ t.faultMark = s.faultMark) ∨ ErrorEffect s t True := by
  obtain ⟨-, ⟨-, rfl⟩ | ⟨ev, rest, -, hevent⟩⟩ := step_next_cases h
  · exact .inr (.kept rfl rfl)
  · rcases performEvent_next_cases hevent with ⟨a, -, -, -, hperform⟩ | ⟨-, rfl⟩ | ⟨-, rfl⟩ | ⟨-, rfl⟩
    · rcases performAccess_error hperform with ⟨herror, hmark⟩ | ⟨x, a, d, herror, hmark⟩ | ⟨-, herror, hmark⟩
      · exact .inr (.kept herror hmark)
      · exact .inr (.recorded x a d herror hmark)
      · exact .inr (.cleared trivial herror hmark)
    · exact .inr (.cleared trivial rfl rfl)
    · rcases State.releaseReset_cases { s with pending := rest } with ⟨-, hrelease⟩ | ⟨-, hrelease⟩ <;>
        rw [hrelease] <;> exact .inr (.kept rfl rfl)
    · exact .inl ⟨rfl, rfl⟩

/-- Settles O28: no event touches the mark but an error, which sets it, and the flags are set by errors alone. -/
theorem faultMarkIsNeverCleared : Obligations.FaultMarkIsNeverCleared := by
  intro s t h
  rcases step_error h with ⟨hpower, hmark⟩ | heffect
  · exact ⟨hmark.trans, fun hreset => absurd hpower hreset, fun hreset => absurd hpower hreset⟩
  · exact ⟨heffect.faultMark_stays, fun _ => heffect.faultMark_of_flag (flag := ErrState.err) rfl,
      fun _ => heffect.faultMark_of_flag (flag := ErrState.multi) rfl⟩

end Sys2Proof.Machine

namespace Sys2Proof.Machine

/-! ### The envelope keeps its invariant (R34, R213) -/

/-- Outside the ramps the invariant asks for bounds only. -/
theorem Env.inv_of_not_isRamp {e : Env} (hramp : e.phase.isRamp = false) (hlevel : e.level.toNat ≤ one)
    (htarget : e.target.toNat ≤ one) (hge : -(one : Int) ≤ e.inc.toInt) (hle : e.inc.toInt ≤ one) (hcount : e.count = 0)
    (hidle : e.phase = .idle → e.level = 0) : e.Inv where
  level_le := hlevel
  target_le := htarget
  inc_ge := hge
  inc_le := hle
  count_le := by rw [hcount]; exact Nat.zero_le _
  count_lt := fun h => by rw [hramp] at h; cases h
  idle_level := hidle
  attack_target := fun h => by rw [h] at hramp; cases hramp
  release_target := fun h => by rw [h] at hramp; cases hramp
  on_course := fun h => by rw [hramp] at h; cases h

/-- All the increments of a ramp lead from its start to the near side of its target (R209). -/
theorem rampInc_on_course {start target : Level} {n : Word} (hstart : start.toNat ≤ one)
    (htarget : target.toNat ≤ one) :
    (0 ≤ (rampInc start target n).toInt ∧
      (start.toNat : Int) + n.toNat * (rampInc start target n).toInt ≤ target.toNat) ∨
    ((rampInc start target n).toInt ≤ 0 ∧
      (target.toNat : Int) ≤ start.toNat + n.toNat * (rampInc start target n).toInt) := by
  rw [rampInc_toInt hstart htarget]
  rcases le_total start.toNat target.toNat with h | h
  · exact .inl ⟨Int.tdiv_nonneg (by omega) (Int.natCast_nonneg _), (rampLevel_rising h le_rfl).2⟩
  · have hdown : 0 ≤ ((start.toNat : Int) - target.toNat).tdiv n.toNat :=
      Int.tdiv_nonneg (by omega) (Int.natCast_nonneg _)
    rw [← Int.neg_sub, Int.neg_tdiv] at hdown
    exact .inr ⟨by omega, (rampLevel_falling h le_rfl).1⟩

/-- The increment of a ramp between two levels is at most ONE in magnitude (R34, R203). -/
theorem rampInc_range {start target : Level} {n : Word} (hstart : start.toNat ≤ one) (htarget : target.toNat ≤ one) :
    -(one : Int) ≤ (rampInc start target n).toInt ∧ (rampInc start target n).toInt ≤ one := by
  have hinc := Int.natAbs_tdiv_le_natAbs ((target.toNat : Int) - start.toNat) n.toNat
  rw [rampInc_toInt hstart htarget]
  omega

/-- No increment is one of at most ONE in magnitude. -/
theorem zero_inc_range : -(one : Int) ≤ (0 : Increment).toInt ∧ (0 : Increment).toInt ≤ one := by decide

/-- The envelope's reset values meet its invariant. -/
theorem Env.inv_reset : Env.reset.Inv :=
  Env.inv_of_not_isRamp rfl (Nat.zero_le _) (Nat.zero_le _) zero_inc_range.1 zero_inc_range.2 rfl fun _ => rfl

/-- A ramp that has just been entered meets the invariant. -/
theorem Env.inv_atRampStart {ph : Phase} {start target : Level} {n : Word} (hramp : ph.isRamp = true)
    (hstart : start.toNat ≤ one) (htarget : target.toNat ≤ one) (hn : n ≠ 0)
    (hattack : ph = .attack → target = levelOne) (hrelease : ph = .release → target = 0) :
    (Env.atRampStart ph start target n).Inv where
  level_le := hstart
  target_le := htarget
  inc_ge := (rampInc_range hstart htarget).1
  inc_le := (rampInc_range hstart htarget).2
  count_le := Nat.zero_le _
  count_lt := fun _ => by
    have hpos : 0 < n.toNat := by bv_omega
    exact hpos
  idle_level := fun h => by cases h; cases hramp
  attack_target := hattack
  release_target := hrelease
  on_course := fun _ => by
    have hcourse := rampInc_on_course (n := n) hstart htarget
    simpa [Env.atRampStart] using hcourse

section
variable {st : Settings} {e : Env} (hsustain : st.sustain.toNat ≤ one)
include hsustain

/-- Decay entered at ONE meets the invariant, whether or not it is skipped. -/
theorem Env.inv_enterDecay (hlevel : e.level = levelOne) : (e.enterDecay st).Inv := by
  by_cases h : st.decay = 0
  · rw [Env.enterDecay_of_zero h]
    exact Env.inv_of_not_isRamp rfl hsustain hsustain zero_inc_range.1 zero_inc_range.2 rfl nofun
  · rw [Env.enterDecay, rampEnter_pos _ _ _ h, hlevel]
    exact Env.inv_atRampStart rfl (by decide) hsustain h nofun nofun

/-- A press keeps the invariant (R206). -/
theorem Env.Inv.press (h : e.Inv) : (e.press st).Inv := by
  by_cases hattack : st.attack = 0
  · rw [Env.press_of_attack_zero hattack]
    exact Env.inv_enterDecay hsustain rfl
  · rw [Env.press, Env.enterAttack, rampEnter_pos _ _ _ hattack]
    exact Env.inv_atRampStart rfl h.level_le (by decide) hattack (fun _ => rfl) nofun

omit hsustain in
/-- A release keeps the invariant (R207). -/
theorem Env.Inv.release (h : e.Inv) : (e.release st).Inv := by
  by_cases hidle : e.phase = .idle
  · rwa [Env.release_of_idle hidle]
  · by_cases hrelease : st.release = 0
    · rw [Env.release_of_zero hidle hrelease]
      exact Env.inv_reset
    · rw [Env.release, if_neg hidle, Env.enterRelease, rampEnter_pos _ _ _ hrelease]
      exact Env.inv_atRampStart rfl h.level_le (by decide) hrelease nofun fun _ => rfl

/-- The phase after a ramp meets the invariant. -/
theorem Env.Inv.enterNext (h : e.Inv) (hramp : e.phase.isRamp = true) : (e.completed.enterNext st).Inv := by
  cases hphase : e.phase with
  | attack =>
    rw [Env.enterNext_of_attack st (e.completed_phase.trans hphase)]
    exact Env.inv_enterDecay hsustain (h.attack_target hphase)
  | decay =>
    rw [Env.enterNext_of_decay st (e.completed_phase.trans hphase)]
    exact Env.inv_of_not_isRamp rfl h.target_le h.target_le h.inc_ge h.inc_le rfl nofun
  | release =>
    rw [Env.enterNext_of_release st (e.completed_phase.trans hphase)]
    exact Env.inv_of_not_isRamp rfl (Nat.zero_le _) h.target_le h.inc_ge h.inc_le rfl fun _ => rfl
  | idle | sustain => rw [hphase] at hramp; cases hramp

omit hsustain in
/-- Before the last sample of a ramp the increment leads to a level of at most ONE (R213). -/
theorem Env.Inv.exists_next_level (h : e.Inv) (hramp : e.phase.isRamp = true)
    (hcount : e.count.toNat + 1 < e.len.toNat) :
    ∃ l : Level, (l.toNat : Int) = e.level.toNat + e.inc.toInt ∧ l.toNat ≤ one := by
  have hleft : (1 : Int) ≤ (e.len.toNat : Int) - e.count.toNat := by omega
  have hlevel := h.level_le
  have htarget := h.target_le
  have hrange : 0 ≤ (e.level.toNat : Int) + e.inc.toInt ∧ (e.level.toNat : Int) + e.inc.toInt ≤ one := by
    rcases h.on_course hramp with ⟨hinc, hcourse⟩ | ⟨hinc, hcourse⟩
    · have hnext := le_mul_of_one_le_left hinc hleft
      omega
    · have hnext := mul_le_of_one_le_left hinc hleft
      omega
  have hone : (one : Int) < 2 ^ 25 := by decide
  refine ⟨BitVec.ofInt 25 (e.level.toNat + e.inc.toInt), ?_⟩
  rw [BitVec.toNat_ofInt]
  omega

omit hsustain in
/-- An inner sample of a ramp keeps the invariant. -/
theorem Env.Inv.inner (h : e.Inv) (hramp : e.phase.isRamp = true) (hcount : e.count.toNat + 1 < e.len.toNat) {l : Level}
    (hl : (l.toNat : Int) = e.level.toNat + e.inc.toInt) (hlevel : l.toNat ≤ one) :
    ({ e with count := e.count + 1, level := l } : Env).Inv := by
  have hnext : (e.count + 1).toNat = e.count.toNat + 1 := by bv_omega
  have hsplit : ((e.len.toNat : Int) - (e.count + 1).toNat) * e.inc.toInt =
      ((e.len.toNat : Int) - e.count.toNat) * e.inc.toInt - e.inc.toInt := by
    rw [hnext]; push_cast; ring
  exact { h with
    level_le := hlevel
    count_le := by show (e.count + 1).toNat ≤ e.len.toNat; omega
    count_lt := fun _ => by show (e.count + 1).toNat < e.len.toNat; omega
    idle_level := fun hidle => by
      have hidle : e.phase = .idle := hidle
      rw [hidle] at hramp; cases hramp
    on_course := fun _ => by
      have hcourse := h.on_course hramp
      simp only [hl, hsplit]
      omega }

/-- A sample keeps the invariant and returns a level of at most ONE (R208). -/
theorem Env.Inv.step (h : e.Inv) : (e.step st).1.Inv ∧ (e.step st).2.toNat ≤ one := by
  by_cases hramp : e.phase.isRamp = true
  · have hcount := h.count_lt hramp
    by_cases hlast : e.count.toNat + 1 = e.len.toNat
    · rw [Env.step_last st hramp hlast]
      exact ⟨h.enterNext hsustain hramp, h.target_le⟩
    · have hinner : e.count.toNat + 1 < e.len.toNat := by omega
      obtain ⟨l, hl, hlevel⟩ := h.exists_next_level hramp hinner
      rw [Env.step_inner st hramp hinner hl]
      exact ⟨h.inner hramp hinner hl hlevel, hlevel⟩
  · rcases Phase.idle_or_sustain_of_not_isRamp hramp with hidle | hsustained
    · rw [Env.step_of_idle hidle]
      exact ⟨h, Nat.zero_le _⟩
    · rw [Env.step_of_sustain hsustained]
      exact ⟨h, h.level_le⟩

/-- Samples keep the invariant. -/
theorem Env.Inv.after (h : e.Inv) (n : Nat) : (e.after st n).Inv := by
  induction n with
  | zero => exact h
  | succ n ih => rw [Env.after_succ]; exact (ih.step hsustain).1

end

/-! ### The block keeps its invariant (R34) -/

/-- A sample scaled by a level of at most ONE lies between 0 and itself (R291). -/
theorem voiceSample_between {l : Level} (hl : l.toNat ≤ one) (a : Int) :
    min a 0 ≤ voiceSample a l ∧ voiceSample a l ≤ max a 0 := by
  have hl0 : (0 : Int) ≤ l.toNat := Int.natCast_nonneg _
  have hl1 : (l.toNat : Int) ≤ 16777216 := Int.ofNat_le.mpr hl
  exact ⟨min_zero_le_mul_ediv hl0 hl1 (by decide), mul_ediv_le_max_zero hl0 hl1 (by decide)⟩

/-- A number within `AMP_MAX` is stored as it is. -/
theorem sample_toInt {x : Int} (hx : -32767 ≤ x ∧ x ≤ 32767) : (BitVec.ofInt 16 x).toInt = x := by
  rw [BitVec.toInt_ofInt_eq_self (by decide)] <;> omega

/-- The voice's samples are within `AMP_MAX` (R291). -/
theorem voiceAt_range {st : Settings} {e : Env} (hsustain : st.sustain.toNat ≤ one) (he : e.Inv) (o : Osc) (k : Nat) :
    -32767 ≤ (voiceAt st o e k).toInt ∧ (voiceAt st o e k).toInt ≤ 32767 := by
  obtain ⟨hlo, hhi⟩ := abs_le.mp (abs_cosTable_le (o.advance k).index)
  obtain ⟨hmin, hmax⟩ := voiceSample_between ((he.after hsustain k).step hsustain).2 (cosTable (o.advance k).index)
  have hrange : -32767 ≤ voiceSample (cosTable (o.advance k).index) (e.levelAt st k) ∧
      voiceSample (cosTable (o.advance k).index) (e.levelAt st k) ≤ 32767 := by
    unfold Env.levelAt ampMax at *
    omega
  rw [voiceAt, sample_toInt hrange]
  exact hrange

/-- A modulated sample is within `AMP_MAX` if the sample was (R252). -/
theorem modSample_range {d : Nat} (hd : d ≤ 32768) (o : Osc) {x : Sample} (hx : -32767 ≤ x.toInt ∧ x.toInt ≤ 32767) :
    -32767 ≤ (modSample d o x).toInt ∧ (modSample d o x).toInt ≤ 32767 := by
  obtain ⟨hlo, hhi⟩ := abs_le.mp (abs_cosTable_le o.index)
  obtain ⟨hmin, hmax⟩ := modApply_between hd hlo hhi x.toInt
  rw [modSample, sample_toInt] <;> omega

/-- STEP fills OUT with samples within `AMP_MAX`. -/
theorem cmdStep_out_range {s : State} (h : s.Sound) : ∀ x ∈ s.cmdStep.out, -ampMax ≤ x.toInt ∧ x.toInt ≤ ampMax := by
  rw [State.cmdStep_eq]
  intro x hx
  obtain ⟨k, hk, rfl⟩ := List.mem_mapIdx.mp hx
  rw [List.getElem_map]
  exact modSample_range h.depth_le _ (voiceAt_range h.sustain_le h.env _ _)

/-- Recording an error leaves a sound error state. -/
theorem ErrState.inv_record (e : ErrState) (x : Err) (a : Offset) (d : Word) (h : e.Inv) : (e.record x a d).Inv := by
  refine ⟨fun hno => ?absent, fun _ => ?code⟩
  case absent => rw [ErrState.record_err] at hno; cases hno
  case code =>
    cases herr : e.err with
    | false => rw [ErrState.record_first herr]; rfl
    | true => rw [ErrState.record_later herr]; exact h.2 herr

/-- Raising an error keeps a state sound. -/
theorem State.Sound.raise {s : State} (h : s.Sound) (x : Err) (a : Offset) (d : Word) : (s.raise x a d).Sound :=
  { h with error := s.error.inv_record x a d h.error, mark := fun _ => rfl }

/-- No error at all is sound. -/
theorem ErrState.inv_clear : ErrState.clear.Inv := ⟨fun _ => rfl, nofun⟩

section
variable {s t u : State} {i : Instr} (h : s.Sound)
include h

/-- A setter keeps a state sound. -/
theorem Stores.sound (hs : Stores s i u) : u.Sound := by
  cases hs with
  | attack | decay | release => exact { h with }
  | sustain _ hn => exact { h with sustain_le := (Nat.mod_le _ _).trans hn }
  | modfreq _ hn => exact { h with modFtw_le := (Nat.mod_le _ _).trans hn }
  | moddepth _ hn => exact { h with depth_le := (Nat.mod_le _ _).trans hn }

/-- A command keeps a state sound, and so does every other operation. -/
theorem Effect.sound (heffect : Effect s i t) : t.Sound := by
  cases heffect with
  | nop | releaseOther | statusKeep => exact h
  | press hnote =>
    exact { h with
      env := h.env.press h.sustain_le
      voiceFtw := .inr ⟨_, (noteIndex _).isLt, rfl⟩ }
  | release => exact { h with env := h.env.release }
  | step =>
    have hout := cmdStep_out_range h
    rw [State.cmdStep_eq] at hout ⊢
    exact { h with env := h.env.after h.sustain_le _, out_range := hout }
  | statusClear => exact { h with error := ErrState.inv_clear, mark := nofun }
  | stores hs => exact hs.sound h
  | clamps hs => exact (hs.sound h).raise _ _ _
  | read => exact { h with }
  | readUnmapped => exact { h.raise _ _ _ with }
  | pressOutOfRange | releaseOutOfRange | readOnly => exact h.raise _ _ _

omit h in
/-- An operation leaves a whole OUT buffer if it finds one. -/
theorem Effect.out_length (heffect : Effect s i t) (hout : s.out.length = s.cfg.blockSize) :
    t.out.length = t.cfg.blockSize := by
  cases heffect with
  | step => simp [State.cmdStep_eq]
  | stores hs | clamps hs => cases hs <;> exact hout
  | _ => exact hout

end

/-- A state whose elements are at their reset values, with legal samples in OUT, is sound (R44). -/
theorem State.sound_of_reset {s : State} (hsettings : s.settings = Settings.reset) (henv : s.env = Env.reset)
    (hvoice : s.voice = Osc.reset) (hmodulator : s.modulator = Osc.reset) (herror : s.error = ErrState.clear)
    (hout : ∀ x ∈ s.out, -ampMax ≤ x.toInt ∧ x.toInt ≤ ampMax) : s.Sound where
  env := henv ▸ Env.inv_reset
  sustain_le := by rw [hsettings]; exact le_rfl
  depth_le := by rw [hsettings]; exact Nat.zero_le _
  modFtw_le := by rw [hmodulator]; exact Nat.zero_le _
  voiceFtw := .inl (by rw [hvoice]; rfl)
  out_range := hout
  error := herror ▸ ErrState.inv_clear
  mark := fun h => by rw [herror] at h; cases h

/-- A block right after reset is sound (R44). -/
theorem State.resetWith_sound (c : Config) : (State.resetWith c).Sound :=
  State.sound_of_reset rfl rfl rfl rfl rfl fun _ => State.resetWith_out_range

/-- Right after reset a legal block meets the invariant. -/
theorem State.resetWith_inv {c : Config} (hc : c.Legal) : (State.resetWith c).Inv :=
  ⟨hc, State.resetWith_out_length c, fun _ => State.resetWith_sound c⟩

/-- Settles O36: the elements are at their reset values, and the default parameters are legal. -/
theorem resetMeetsInvariant : Obligations.ResetMeetsInvariant := by
  have hdefault : Config.default.Legal := by decide
  exact ⟨fun c hc => ⟨State.resetWith_inv hc, State.resetWith_sound c⟩, State.resetWith_inv hdefault,
    State.resetWith_sound _, rfl⟩

/-- Asserting reset leaves a block that meets the invariant, whatever it held. -/
theorem State.hardwareReset_inv {s : State} (hlegal : s.cfg.Legal) : s.hardwareReset.Inv :=
  ⟨hlegal, drawSamples_length _ _, fun _ => State.sound_of_reset rfl rfl rfl rfl rfl fun _ => drawSamples_range⟩

section
variable {s t : State}

/-- A transaction of a running block keeps the invariant. -/
theorem performAccess_inv {a : Access} (h : s.Inv) (hreleased : s.resetLine = .released)
    (hperform : performAccess a s = .next t) : t.Inv := by
  have hsound : s.Sound := h.sound (by rw [hreleased]; nofun)
  rcases performAccess_next_cases hperform with ⟨i, -, hexec⟩ | ⟨x, -, rfl⟩
  · have heffect := exec_next_cases hexec
    exact ⟨heffect.outside.1 ▸ h.legal, heffect.out_length h.out_length, fun _ => heffect.sound hsound⟩
  · rcases rejectAccess_cases x a s with ⟨-, hreject⟩ | ⟨-, hreject⟩ <;> rw [hreject]
    · exact ⟨h.legal, h.out_length, fun _ => hsound.raise _ _ _⟩
    · exact ⟨h.legal, h.out_length, fun _ => { hsound.raise _ _ _ with }⟩

/-- Releasing reset keeps the invariant: where reset is asserted the elements are sound. -/
theorem State.Inv.releaseReset (h : s.Inv) : s.releaseReset.Inv := by
  rcases s.releaseReset_cases with ⟨hasserted, hrelease⟩ | ⟨-, hrelease⟩ <;> rw [hrelease]
  · have hsound : s.Sound := h.sound (by rw [hasserted]; nofun)
    exact ⟨h.legal, h.out_length, fun _ => { hsound with }⟩
  · exact h

/-- An event keeps the invariant; a loss of power leaves elements of which nothing is claimed. -/
theorem performEvent_inv {ev : Event} (h : s.Inv) (hevent : performEvent ev s = .next t) : t.Inv := by
  rcases performEvent_next_cases hevent with ⟨a, -, hreleased, -, hperform⟩ | ⟨-, rfl⟩ | ⟨-, rfl⟩ | ⟨-, rfl⟩
  · exact performAccess_inv h hreleased hperform
  · exact State.hardwareReset_inv h.legal
  · exact h.releaseReset
  · exact ⟨h.legal, lostOut_length _ _, fun hpower => absurd rfl hpower⟩

/-- A step keeps the invariant. -/
theorem step_inv (h : s.Inv) (hstep : step s = .next t) : t.Inv := by
  obtain ⟨-, ⟨-, rfl⟩ | ⟨ev, rest, -, hevent⟩⟩ := step_next_cases hstep
  · exact h
  · exact performEvent_inv (s := { s with pending := rest })
      ⟨h.legal, h.out_length, fun hpower => { h.sound hpower with }⟩ hevent

/-- In a sound state of a legal block the voice's tuning word is a legal one (R34, R142). -/
theorem State.Sound.voiceFtw_le (h : s.Sound) (hlegal : s.cfg.Legal) : s.voice.ftw.toNat ≤ ftwMax := by
  obtain ⟨-, -, hfs, -⟩ := hlegal
  rcases h.voiceFtw with hzero | ⟨n, hn, hentry⟩
  · rw [hzero]
    exact Nat.zero_le _
  · rw [hentry]
    exact ftabRom_le_ftwMax hfs hn

end

/-- Settles O37: every event keeps the invariant, and every entry of the ROM is a legal tuning word. -/
theorem stepKeepsInvariant : Obligations.StepKeepsInvariant := by
  intro s t h hstep
  have ht := step_inv h hstep
  exact ⟨ht, fun hpower => (ht.sound hpower).voiceFtw_le ht.legal⟩

end Sys2Proof.Machine

namespace Sys2Proof.Machine

/-! ### The end points of the modulation and of the voice product (R254, R291) -/

/-- At depth 0 a modulated sample is the sample. -/
@[simp] theorem modSample_depth_zero (o : Osc) (x : Sample) : modSample 0 o x = x := by
  rw [modSample, modApply_of_modCut_eq_zero (modCut_depth_zero _), BitVec.ofInt_toInt]

/-- At depth 0 the modulator leaves the block as it is (R254). -/
theorem modStep_depth_zero (xs : List Sample) (o : Osc) : (modStep 0 xs o).2 = xs := by
  induction xs generalizing o with
  | nil => rfl
  | cons x xs ih => rw [modStep_cons, modSample_depth_zero, ih]

/-- STEP leaves in OUT the voice's block, as the modulator has changed it (R290). -/
theorem State.cmdStep_out (s : State) :
    s.cmdStep.out =
      (modStep s.settings.modDepth.toNat (voiceStep s.settings s.cfg.blockSize s.voice s.env).2.2 s.modulator).2 := rfl

/-- Settles O50: at depth 0 the cut is 0, and at full depth it is between 0, at the modulator's peak, and 32767. -/
theorem depthEndPoints : Obligations.DepthEndPoints := by
  refine ⟨modStep_depth_zero, fun s t hdepth hexec => ?block, by decide, by decide, fun m hmlo hmhi => ?gain⟩
  case block =>
    obtain rfl : s.cmdStep = t := Host.Outcome.next.inj hexec
    rw [State.cmdStep_out, hdepth]
    exact modStep_depth_zero _ _
  case gain =>
    have hcut := modCut_range (d := 32768) le_rfl hmlo hmhi
    omega

/-- The voice product as a floor division. -/
theorem voiceSample_eq (a : Int) (l : Level) : voiceSample a l = a * l.toNat / 16777216 := rfl

/-- Settles O51: the level is a fraction of ONE, so the product lies between 0 and the sample. -/
theorem voiceProductBounded : Obligations.VoiceProductBounded := by
  intro a l halo hahi hl
  obtain ⟨hmin, hmax⟩ := voiceSample_between hl a
  refine ⟨voiceSample_eq a l, by omega, by omega, fun hone => ?full, fun hzero => ?silent⟩
  case full =>
    rw [voiceSample_eq, hone]
    exact Int.mul_ediv_cancel a (by decide)
  case silent => simp [voiceSample_eq, hzero]

/-! ### Monotone ramps (R213) -/

section
variable {start target : Level} {n : Word}

/-- One more increment of a rising ramp does not fall. -/
theorem rampLevel_le_succ (h : start.toNat ≤ target.toNat) (k : Nat) :
    rampLevel start target n k ≤ rampLevel start target n (k + 1) := by
  have hinc : 0 ≤ ((target.toNat : Int) - start.toNat).tdiv n.toNat :=
    Int.tdiv_nonneg (by omega) (Int.natCast_nonneg _)
  rw [rampLevel_succ]
  omega

/-- One more increment of a falling ramp does not rise. -/
theorem rampLevel_succ_le (h : target.toNat ≤ start.toNat) (k : Nat) :
    rampLevel start target n (k + 1) ≤ rampLevel start target n k := by
  have hinc : 0 ≤ ((start.toNat : Int) - target.toNat).tdiv n.toNat :=
    Int.tdiv_nonneg (by omega) (Int.natCast_nonneg _)
  rw [← Int.neg_sub, Int.neg_tdiv] at hinc
  rw [rampLevel_succ]
  omega

/-- A ramp shorter in value than in time has no increment. -/
theorem rampLevel_of_short (hup : start.toNat < target.toNat + n.toNat) (hdown : target.toNat < start.toNat + n.toNat)
    (k : Nat) : rampLevel start target n k = start.toNat := by
  have hinc : ((target.toNat : Int) - start.toNat).tdiv n.toNat = 0 := by
    rcases le_total start.toNat target.toNat with h | h
    · exact Int.tdiv_eq_zero_of_lt (by omega) (by omega)
    · rw [← Int.neg_sub, Int.neg_tdiv, Int.tdiv_eq_zero_of_lt (by omega) (by omega), Int.neg_zero]
  rw [rampLevel, hinc]
  omega

end

/-- Sample `k` of a ramp as a number: `k` increments from the start, but the target itself at the last sample (R209). -/
def rampSample (start target : Level) (n : Word) (k : Nat) : Int :=
  if k = n.toNat then target.toNat else rampLevel start target n k

section
variable {start target : Level} {n : Word} {k : Nat}

/-- A rising ramp's samples stay between its start and its target, the last one included. -/
theorem rampSample_rising (h : start.toNat ≤ target.toNat) (hk : k ≤ n.toNat) :
    (start.toNat : Int) ≤ rampSample start target n k ∧ rampSample start target n k ≤ target.toNat := by
  unfold rampSample
  split
  · omega
  · exact rampLevel_rising h hk

/-- A falling ramp's samples stay between its target and its start, the last one included. -/
theorem rampSample_falling (h : target.toNat ≤ start.toNat) (hk : k ≤ n.toNat) :
    (target.toNat : Int) ≤ rampSample start target n k ∧ rampSample start target n k ≤ start.toNat := by
  unfold rampSample
  split
  · omega
  · exact rampLevel_falling h hk

/-- A rising ramp's samples do not fall, at the last one either. -/
theorem rampSample_le_succ (h : start.toNat ≤ target.toNat) (hk : k < n.toNat) :
    rampSample start target n k ≤ rampSample start target n (k + 1) := by
  have hinner : rampSample start target n k = rampLevel start target n k := if_neg hk.ne
  by_cases hlast : k + 1 = n.toNat
  · rw [hinner, rampSample, if_pos hlast]
    exact (rampLevel_rising h hk.le).2
  · rw [hinner, rampSample, if_neg hlast]
    exact rampLevel_le_succ h k

/-- A falling ramp's samples do not rise, at the last one either. -/
theorem rampSample_succ_le (h : target.toNat ≤ start.toNat) (hk : k < n.toNat) :
    rampSample start target n (k + 1) ≤ rampSample start target n k := by
  have hinner : rampSample start target n k = rampLevel start target n k := if_neg hk.ne
  by_cases hlast : k + 1 = n.toNat
  · rw [hinner, rampSample, if_pos hlast]
    exact (rampLevel_falling h hk.le).1
  · rw [hinner, rampSample, if_neg hlast]
    exact rampLevel_succ_le h k

/-- Sample `k + 1` of a ramp, the last one included (R209). -/
theorem Env.levelAt_eq_rampSample (st : Settings) {ph : Phase} (hramp : ph.isRamp = true)
    (hstart : start.toNat ≤ 16777216) (htarget : target.toNat ≤ 16777216) (hk : k < n.toNat) :
    (((Env.atRampStart ph start target n).levelAt st k).toNat : Int) = rampSample start target n (k + 1) := by
  by_cases hlast : k + 1 = n.toNat
  · rw [rampSample, if_pos hlast, Env.levelAt, Env.step_after_atRampStart st hramp hstart htarget hlast]
  · rw [rampSample, if_neg hlast, Env.levelAt_atRampStart st hramp hstart htarget (by omega)]

end

/-- Settles O54: all the samples of a ramp are increments of one sign, none of which passes the target. -/
theorem rampIsMonotoneAndBounded : Obligations.RampIsMonotoneAndBounded := by
  intro st ph start target n k hramp hstart htarget hk e
  have hlevel {j : Nat} (hj : j < n.toNat) : ((e.levelAt st j).toNat : Int) = rampSample start target n (j + 1) :=
    Env.levelAt_eq_rampSample st hramp hstart htarget hj
  have hbounds : min start.toNat target.toNat ≤ (e.levelAt st k).toNat ∧
      (e.levelAt st k).toNat ≤ max start.toNat target.toNat := by
    have hsample := hlevel hk
    rcases le_total start.toNat target.toNat with h | h
    · have hrange := rampSample_rising (n := n) (k := k + 1) h hk
      omega
    · have hrange := rampSample_falling (n := n) (k := k + 1) h hk
      omega
  refine ⟨hbounds.1, hbounds.2, fun hnext h => ?rising, fun hnext h => ?falling, fun hnext hup hdown => ?short⟩
  case rising =>
    have hmono := rampSample_le_succ (n := n) h hnext
    rw [← hlevel hk, ← hlevel hnext] at hmono
    exact Int.ofNat_le.mp hmono
  case falling =>
    have hmono := rampSample_succ_le (n := n) h hnext
    rw [← hlevel hk, ← hlevel hnext] at hmono
    exact Int.ofNat_le.mp hmono
  case short =>
    have hsample := hlevel hk
    rw [rampSample, if_neg hnext.ne, rampLevel_of_short hup hdown] at hsample
    exact BitVec.eq_of_toNat_eq (Int.ofNat_inj.mp hsample)

/-! ### From a press to Sustain and from a release to Idle (R211, R212) -/

section
variable (st : Settings) {e : Env}

/-- Outside the ramps no sample changes anything. -/
theorem Env.after_hold (h : e.phase = .idle ∨ e.phase = .sustain) (n : Nat) : e.after st n = e := by
  induction n with
  | zero => rfl
  | succ n ih => rw [Env.after_succ, ih, Env.step_hold st h]

/-- After its samples a ramp has been completed and the next phase entered (R209). -/
theorem Env.after_ramp {ph : Phase} {start target : Level} {n : Word} (hramp : ph.isRamp = true)
    (hstart : start.toNat ≤ 16777216) (htarget : target.toNat ≤ 16777216) (hn : n ≠ 0) :
    (Env.atRampStart ph start target n).after st n.toNat =
      (Env.inRamp ph start target n (n.toNat - 1)).completed.enterNext st := by
  have hlast : n.toNat - 1 + 1 = n.toNat := Nat.sub_add_cancel (by bv_omega)
  conv_lhs => rw [← hlast, Env.after_succ, Env.step_after_atRampStart st hramp hstart htarget hlast]

variable {st}

/-- From ONE the envelope is in Sustain at the sustain level after the samples of Decay, if any. -/
theorem Env.after_enterDecay (hsustain : st.sustain.toNat ≤ 16777216) (hlevel : e.level = levelOne) :
    ((e.enterDecay st).after st st.decay.toNat).phase = .sustain ∧
      ((e.enterDecay st).after st st.decay.toNat).level = st.sustain := by
  by_cases hdecay : st.decay = 0
  · rw [Env.enterDecay_of_zero hdecay, hdecay]
    exact ⟨rfl, rfl⟩
  · have hstart : e.enterDecay st = Env.atRampStart .decay levelOne st.sustain st.decay := by
      rw [Env.enterDecay, rampEnter_pos _ _ _ hdecay, hlevel, Env.atRampStart]
    rw [hstart, Env.after_ramp st rfl (by decide) hsustain hdecay, Env.enterNext_of_decay st rfl]
    exact ⟨rfl, rfl⟩

/-- After a press the envelope is in Sustain at the sustain level as soon as Attack and Decay are over. -/
theorem Env.after_press (hlevel : e.level.toNat ≤ 16777216) (hsustain : st.sustain.toNat ≤ 16777216) :
    ((e.press st).after st (st.attack.toNat + st.decay.toNat)).phase = .sustain ∧
      ((e.press st).after st (st.attack.toNat + st.decay.toNat)).level = st.sustain := by
  by_cases hattack : st.attack = 0
  · rw [Env.press_of_attack_zero hattack, hattack, show (0 : Word).toNat = 0 from rfl, Nat.zero_add]
    exact Env.after_enterDecay hsustain rfl
  · have hstart : e.press st = Env.atRampStart .attack e.level levelOne st.attack := by
      rw [Env.press, Env.enterAttack, rampEnter_pos _ _ _ hattack, Env.atRampStart]
    rw [hstart, Env.after_add, Env.after_ramp st rfl hlevel (by decide) hattack, Env.enterNext_of_attack st rfl]
    exact Env.after_enterDecay hsustain rfl

/-- A release over at least one sample is a ramp from the level at the release to 0 (R207). -/
theorem Env.release_eq_atRampStart (he : e.phase ≠ .idle) (h : st.release ≠ 0) :
    e.release st = Env.atRampStart .release e.level 0 st.release := by
  rw [Env.release, if_neg he, Env.enterRelease, rampEnter_pos _ _ _ h, Env.atRampStart]

/-- After the samples of a release the envelope is Idle (R212). -/
theorem Env.after_release (hlevel : e.level.toNat ≤ 16777216) (he : e.phase ≠ .idle) (h : st.release ≠ 0) {n : Nat}
    (hn : st.release.toNat ≤ n) : ((e.release st).after st n).phase = .idle := by
  obtain ⟨m, rfl⟩ := Nat.exists_eq_add_of_le hn
  rw [Env.release_eq_atRampStart he h, Env.after_add, Env.after_ramp st rfl hlevel (by decide) h,
    Env.enterNext_of_release st rfl, Env.after_hold st (.inl rfl)]
  rfl

end

/-- Settles O56: the ramps of Attack and Decay are over, and a sample of Sustain changes nothing. -/
theorem heldNoteReachesSustain : Obligations.HeldNoteReachesSustain := by
  intro st e n hlevel hsustain hn
  obtain ⟨hphase, hsustained⟩ := Env.after_press hlevel hsustain
  obtain ⟨m, rfl⟩ := Nat.exists_eq_add_of_le hn
  have hafter := Env.after_hold st (.inr hphase) m
  rw [← Env.after_add] at hafter
  rw [Env.levelAt, hafter, Env.step_of_sustain hphase]
  exact ⟨hphase, hsustained, hsustained⟩

/-- Settles O57: a release is a falling ramp to 0, and a sample of Idle is 0. -/
theorem releaseFallsToIdle : Obligations.ReleaseFallsToIdle := by
  intro st e hlevel he h
  have hpos : 0 < st.release.toNat := by bv_omega
  have hidle (n : Nat) (hn : st.release.toNat ≤ n) :
      ((e.release st).after st n).phase = .idle ∧ (e.release st).levelAt st n = 0 := by
    have hphase := Env.after_release hlevel he h hn
    rw [Env.levelAt, Env.step_of_idle hphase]
    exact ⟨hphase, rfl⟩
  have hramp (k : Nat) (hk : k < st.release.toNat) :=
    rampIsMonotoneAndBounded st .release e.level 0 st.release k rfl hlevel (Nat.zero_le _) hk
  rw [Env.release_eq_atRampStart he h] at hidle ⊢
  refine ⟨?start, fun k => ?falls, ?last, hidle⟩
  case start =>
    have hbound := (hramp 0 hpos).2.1
    exact hbound.trans (max_le le_rfl (Nat.zero_le _))
  case falls =>
    by_cases hk : k + 1 < st.release.toNat
    · obtain ⟨-, -, -, hfalling, -⟩ := hramp k (by omega)
      exact hfalling hk (Nat.zero_le _)
    · rw [(hidle (k + 1) (by omega)).2]
      exact Nat.zero_le _
  case last =>
    obtain ⟨-, hlast, -⟩ := rampTrajectory st .release e.level 0 st.release rfl hlevel (Nat.zero_le _) h
    exact hlast

end Sys2Proof.Machine

namespace Sys2Proof

/-! ### Words written out (R101, R107) -/

/-- Settles O29: closed words, each decoded by the model itself. -/
theorem decodeSampleWords : Obligations.DecodeSampleWords := by
  unfold Obligations.DecodeSampleWords
  decide

end Sys2Proof

namespace Sys2Proof.Machine

/-! ### PRESS and RELEASE terms out of range, and last-note priority (R284, R286) -/

/-- The word of a PRESS or RELEASE with a NOTE of 128 or more is rejected (R105). -/
theorem decode_cmdWord_noteRange {op : BitVec 4} (hop : op.toNat = 1 ∨ op.toNat = 2) {note : BitVec 8}
    (h : 128 ≤ note.toNat) : decode 0x1000#13 (cmdWord op note) = .error .noteRange := by
  obtain ⟨hopcode, hrsv, hnote⟩ := cmdWord_fields op note
  rw [decode_cmdKey]
  exact decodeCmd_noteRange (by rwa [hopcode]) hrsv (by rwa [hnote])

/-- Settles O4: the terms' own check, and the decoder's on the same words. -/
theorem noteOutOfRangeRecordsError : Obligations.NoteOutOfRangeRecordsError := by
  intro s note h
  have hlegal : ¬ note.toNat < 128 := Nat.not_lt.mpr h
  exact ⟨if_neg hlegal, if_neg hlegal, decode_cmdWord_noteRange (op := 0x1#4) (.inl rfl) h,
    decode_cmdWord_noteRange (op := 0x2#4) (.inr rfl) h⟩

/-- A RELEASE of a note other than the current one is dropped (R284). -/
theorem exec_release_of_ne {s : State} {note : BitVec 8} (hlegal : note.toNat < 128)
    (h : note.toNat ≠ s.curNote.toNat) :
    exec (.release note) s = .next s := by
  have hother : noteIndex note ≠ s.curNote := fun heq => h (by rw [← heq, noteIndex_toNat hlegal])
  rw [exec_release hlegal, State.cmdRelease_of_ne hother]

/-- Settles O42: after A and then B the current note is B, so A is another one. -/
theorem lastNotePriority : Obligations.LastNotePriority := by
  refine ⟨fun s n => exec_release_of_ne, fun s t₁ t₂ a b ha hb hab _ hpress => ?_⟩
  obtain rfl := Host.Outcome.next.inj ((exec_press hb t₁).symm.trans hpress)
  refine exec_release_of_ne ha fun heq => hab (BitVec.eq_of_toNat_eq ?_)
  rw [heq, State.cmdPress_curNote, noteIndex_toNat hb]

/-! ### Settings read back (R300 to R305) -/

/-- A word that fits a narrower register reads back as it is. -/
theorem setWidth_setWidth_of_lt {w : Nat} {d : Word} (h : d.toNat < 2 ^ w) : (d.setWidth w).setWidth 32 = d := by
  apply BitVec.eq_of_toNat_eq
  rw [BitVec.toNat_setWidth, BitVec.toNat_setWidth, Nat.mod_eq_of_lt h, Nat.mod_eq_of_lt d.isLt]

/-- Settles O12: a legal setter changes one field, which one register reads. -/
theorem settingReadsBackWhatWasWritten : Obligations.SettingReadsBackWhatWasWritten := by
  intro s t d r
  refine ⟨fun h => ?attack, fun h => ?decay, fun h => ?release, fun hd h => ?sustain, fun hd h => ?modfreq,
    fun hd h => ?moddepth⟩
  case attack | decay | release =>
    cases h
    cases r <;> rfl
  case sustain =>
    obtain rfl := Host.Outcome.next.inj (((sustainSetterClamps s d).1 hd).symm.trans h)
    cases r with
    | sustain => exact setWidth_setWidth_of_lt (by omega)
    | _ => rfl
  case modfreq =>
    obtain rfl := Host.Outcome.next.inj (((modfreqSetterClamps s d).1 hd).symm.trans h)
    cases r <;> rfl
  case moddepth =>
    obtain rfl := Host.Outcome.next.inj (((moddepthSetterClamps s d).1 hd).symm.trans h)
    cases r with
    | moddepth => exact setWidth_setWidth_of_lt (by omega)
    | _ => rfl

/-! ### RD_OUT (R320) -/

/-- Settles O19: the buffer has `B` entries, so the entry is there exactly where the operation reads it. -/
theorem outReads : Obligations.OutReads := by
  intro s j hlength
  refine ⟨fun hj => ?sample, fun hj => ?unmapped, fun d => ?key⟩
  case sample =>
    have hread : exec (.rdOut j) s = .next (readReg (.out j) s) := if_pos (decide_eq_true (hlength ▸ hj))
    rw [hread, readReg, readValue, State.outAt, List.getD_eq_getElem _ _ hj]
    rfl
  case unmapped =>
    rw [exec_rdOut_of_le hj, rejectRead, Reg.offset_eq_ofNat (Reg.out_offset_toNat j)]
  case key =>
    rw [← readKey_eq_ofNat (Reg.out_offset_toNat j), decode_readKey]
    rfl

/-! ### One step of a running block (R80, R363) -/

/-- A table word is decoded as its transaction is (R107). -/
theorem decode_of_decodeTableWord {nbits w : Nat} {i : Instr} (h : decodeTableWord nbits w = some i) :
    decode (tableAccess nbits w).key (tableAccess nbits w).data = .ok i := by
  unfold decodeTableWord at h
  split at h
  · cases h; assumption
  · cases h

/-- Settles O22: a word access of a running block is performed, and that runs what it decodes to. -/
theorem stepRunsDecodedInstruction : Obligations.StepRunsDecodedInstruction := by
  refine ⟨fun s a rest i h hs hdecode => ?access, fun s nbits w i hlegal hdecode => ?tableWord⟩
  case access => rw [step_eq_performAccess h hs, performAccess_of_ok hdecode]
  case tableWord =>
    have hasks : (s.withFetchWord nbits w).Asks (tableAccess nbits w) s.pending := ⟨hlegal, rfl, rfl⟩
    rw [step_eq_performAccess hasks rfl, performAccess_of_ok (decode_of_decodeTableWord hdecode)]
    rfl

/-- Settles O23: a word access that decodes to no operation is rejected. -/
theorem stepRecordsRejectedAccess : Obligations.StepRecordsRejectedAccess := by
  intro s a rest x h hs hdecode
  rw [step_eq_performAccess h hs, performAccess_of_error hdecode]
  rfl

/-! ### Reset, power and the ends of the interface (R400 to R403, R375) -/

section
variable {s : State} {ev : Event} {rest : List Event}

/-- A legal block takes the next event. -/
theorem step_of_pending (hlegal : s.cfg.Legal) (h : s.pending = ev :: rest) :
    step s = performEvent ev { s with pending := rest } := by
  rw [step, performNext, if_pos hlegal, h]

/-- Reset is asserted between two transactions, or within one that the block has begun (R400, R403). -/
theorem step_of_reset (hlegal : s.cfg.Legal) (h : s.pending = ev :: rest)
    (hev : ev = .assertReset ∨ ∃ a : Access, ev = .cutShort a ∧ s.resetLine = .released ∧ a.size = 4) :
    step s = .next ({ s with pending := rest } : State).hardwareReset := by
  rw [step_of_pending hlegal h]
  obtain rfl | ⟨a, rfl, hreleased, hsize⟩ := hev
  · rfl
  · exact beginAccess_of_released (s := { s with pending := rest }) hreleased hsize _

/-- Power is lost and comes back (R375). -/
theorem step_of_powerLoss (hlegal : s.cfg.Legal) (h : s.pending = .powerLoss :: rest) :
    step s = .next ({ s with pending := rest } : State).losePower :=
  step_of_pending hlegal h

/-- Reset is released (R400). -/
theorem step_of_releaseReset (hlegal : s.cfg.Legal) (h : s.pending = .releaseReset :: rest) :
    step s = .next ({ s with pending := rest } : State).releaseReset :=
  step_of_pending hlegal h

end

/-- Settles O34: an assertion brings the reset state, a release moves the reset input alone, and a loss of power is
neither. -/
theorem resetAtAnyTime : Obligations.ResetAtAnyTime := by
  intro s ev rest hlegal hpending
  refine ⟨fun hev => ?asserted, ?released, ?notAsserted, ?powerLoss⟩
  case asserted =>
    exact ⟨_, step_of_reset hlegal hpending hev, rfl, rfl, rfl, rfl, rfl, rfl, drawSamples_length _ _,
      fun _ => drawSamples_range, rfl, rfl, rfl, rfl, rfl⟩
  case released =>
    rintro rfl hasserted
    rw [step_of_releaseReset hlegal hpending]
    obtain ⟨-, hrelease⟩ := (State.releaseReset_cases { s with pending := rest }).resolve_right fun h => h.1 hasserted
    rw [hrelease]
  case notAsserted =>
    rintro rfl hline
    rw [step_of_releaseReset hlegal hpending]
    obtain ⟨-, hrelease⟩ := (State.releaseReset_cases { s with pending := rest }).resolve_left fun h => hline h.1
    rw [hrelease]
  case powerLoss =>
    rintro rfl
    exact ⟨_, step_of_powerLoss hlegal hpending, rfl, rfl, rfl, rfl, rfl⟩

/-- An access that the block cannot begin stops the step, cut short by reset or not (U13, U15, U17). -/
theorem performEvent_access_stops {ev : Event} {a : Access} (hev : ev = .access a ∨ ev = .cutShort a) (s : State) :
    (s.resetLine = .asserted → performEvent ev s = .fault .transactionInReset) ∧
    (s.resetLine = .neverReset → performEvent ev s = .refused .powerUpWithoutReset) ∧
    (s.resetLine = .released → a.size ≠ 4 → performEvent ev s = .refused .accessWidth) := by
  have hstops (go : Host.Outcome State Fault Refusal) :
      (s.resetLine = .asserted → beginAccess a s go = .fault .transactionInReset) ∧
      (s.resetLine = .neverReset → beginAccess a s go = .refused .powerUpWithoutReset) ∧
      (s.resetLine = .released → a.size ≠ 4 → beginAccess a s go = .refused .accessWidth) := by
    refine ⟨fun h => ?_, fun h => ?_, fun h hsize => ?_⟩ <;> simp only [beginAccess, h]
    exact if_neg hsize
  obtain rfl | rfl := hev
  · exact hstops _
  · exact hstops _

/-- Settles O35: the step looks at the parameters, then for an event, and for an access at the reset input and then at
the size. -/
theorem stepStopsOutsideTheInterface : Obligations.StepStopsOutsideTheInterface := by
  refine fun s a rest => ⟨step_of_not_legal, fun hlegal hidle => ?idle, fun hlegal hpending => ?access⟩
  case idle => rw [step, performNext, if_pos hlegal, hidle]
  case access =>
    obtain ⟨ev, hev, hpending⟩ : ∃ ev, (ev = .access a ∨ ev = .cutShort a) ∧ s.pending = ev :: rest :=
      hpending.elim (fun h => ⟨_, .inl rfl, h⟩) fun h => ⟨_, .inr rfl, h⟩
    rw [step_of_pending hlegal hpending]
    exact performEvent_access_stops hev { s with pending := rest }

/-- Settles O59: a loss of power leaves free values, which depend on nothing the block held, and reset replaces them. -/
theorem powerLossForgetsState : Obligations.PowerLossForgetsState := by
  refine ⟨?forgets, fun s rest hlegal hpending => ?reset⟩
  case forgets =>
    intro s s' rest hlegal hcfg hdraws hreads hmark hpending hpending'
    have hsame : ({ s with pending := rest } : State).losePower = ({ s' with pending := rest } : State).losePower :=
      State.losePower_eq hcfg hdraws rfl hreads hmark
    refine ⟨_, step_of_powerLoss hlegal hpending, ?_, rfl, lostOut_length _ _⟩
    rw [hsame]
    exact step_of_powerLoss (hcfg ▸ hlegal) hpending'
  case reset =>
    exact ⟨_, _, step_of_powerLoss hlegal hpending, step_of_reset (ev := .assertReset) hlegal rfl (.inl rfl), rfl⟩

/-! ### The symmetries of the cosine table (R172, R173) -/

section
variable {i : Nat}

/-- In the first quarter the cosine is the quarter table's (R172). -/
theorem cosTable_first (h : i ≤ 256) : cosTable i = cosQuarter i := if_pos h

/-- In the second quarter the cosine is the quarter table's from its end, negated; at its start both are 0 (R172). -/
theorem cosTable_second (hlo : 256 ≤ i) (hhi : i ≤ 512) : cosTable i = -cosQuarter (512 - i) := by
  rcases hlo.eq_or_lt with rfl | hlt
  · decide
  · rw [cosTable, if_neg hlt.not_ge, if_pos hhi]

/-- In the third quarter the cosine is the quarter table's, negated (R172). -/
theorem cosTable_third (hlo : 512 ≤ i) (hhi : i ≤ 768) : cosTable i = -cosQuarter (i - 512) := by
  rcases hlo.eq_or_lt with rfl | hlt
  · decide
  · rw [cosTable, if_neg (by omega), if_neg hlt.not_ge, if_pos hhi]

/-- In the last quarter the cosine is the quarter table's from its end; at its start both are 0 (R172). -/
theorem cosTable_last (hlo : 768 ≤ i) : cosTable i = cosQuarter (1024 - i) := by
  rcases hlo.eq_or_lt with rfl | hlt
  · decide
  · rw [cosTable, if_neg (by omega), if_neg (by omega), if_neg hlt.not_ge]

/-- The first half of the cycle is antisymmetric about its middle. -/
theorem cosTable_half (h : i ≤ 512) : cosTable i = -cosTable (512 - i) := by
  rcases le_total i 256 with hlo | hhi
  · rw [cosTable_first hlo, cosTable_second (by omega) (by omega), Nat.sub_sub_self h, neg_neg]
  · rw [cosTable_second hhi h, cosTable_first (by omega)]

/-- The cycle is symmetric about its middle: this is the symmetry of its first half. -/
theorem cosTable_cycle_of_le (h : i ≤ 512) : cosTable i = cosTable (1024 - i) := by
  rcases le_total i 256 with hlo | hhi
  · rw [cosTable_first hlo, cosTable_last (by omega), Nat.sub_sub_self (by omega)]
  · rw [cosTable_second hhi h, cosTable_third (by omega) (by omega), Nat.sub_right_comm]

/-- The cycle is symmetric about its middle. -/
theorem cosTable_cycle (h : i ≤ 1024) : cosTable i = cosTable (1024 - i) := by
  rcases le_total i 512 with hlo | hhi
  · exact cosTable_cycle_of_le hlo
  · rw [cosTable_cycle_of_le (i := 1024 - i) (by omega), Nat.sub_sub_self h]

/-- The sine is the cosine a quarter of a cycle earlier (R173). -/
theorem sinTable_eq_shift (i : Nat) : sinTable i = cosTable ((((i : Int) - 256) % 1024).toNat) := by
  have hindex : (i + 768) % 1024 = (((i : Int) - 256) % 1024).toNat := by omega
  rw [sinTable, hindex]

end

/-- Settles O48: the quarter table read entry by entry, and the four quarters of the definition compared. -/
theorem cosineTableSymmetry : Obligations.CosineTableSymmetry := by
  refine ⟨?quarter, fun i _ => abs_cosTable_le i, fun _ => cosTable_half, fun _ _ hi => cosTable_cycle hi.le,
    fun i _ => sinTable_eq_shift i, rfl, rfl, rfl, rfl, rfl, rfl, rfl, rfl⟩
  case quarter => decide +kernel

end Sys2Proof.Machine

namespace Sys2Proof.Machine

/-! ### The frequency ROM rises by semitones (R142, R144) -/

section
variable {fs i : Nat} (hlow : 25088 ≤ fs) (hhigh : fs ≤ 192000) (hi : i < 128)
include hlow hhigh hi

/-- Every entry of a legal block is at least the lowest one of the fastest block. -/
theorem ftabRom_ge : 182890 ≤ (ftabRom fs i).toNat := by
  have hzero : ftabFits fs 0 182890 = true :=
    (le_ftabRom_iff hlow (by decide) (by decide)).mp (ftabRom_zero_ge hlow hhigh)
  exact (le_ftabRom_iff hlow hi (by decide)).mpr (ftabFits_mono le_rfl (Nat.zero_le i) hzero)

end

/-- Where a number of at least 101 fits a note, the next number fits the next note: a semitone is over one in 100. -/
theorem ftabFits_succ {fs i n : Nat} (hn : 101 ≤ n) (h : ftabFits fs i n = true) :
    ftabFits fs (i + 1) (n + 1) = true := by
  have hratio : 100 * (2 * (n + 1) - 1) ≤ 101 * (2 * n - 1) := by omega
  have hsemitone : 101 ^ 12 ≤ 2 * 100 ^ 12 := by decide
  simp only [ftabFits, decide_eq_true_iff] at h ⊢
  have hpos : 0 < 100 ^ 12 := by decide
  refine Nat.le_of_mul_le_mul_left ?_ hpos
  calc 100 ^ 12 * (((2 * (n + 1) - 1) * fs) ^ 12 * 2 ^ 69)
      = (100 * (2 * (n + 1) - 1) * fs) ^ 12 * 2 ^ 69 := by ring
    _ ≤ (101 * (2 * n - 1) * fs) ^ 12 * 2 ^ 69 := by gcongr
    _ = 101 ^ 12 * (((2 * n - 1) * fs) ^ 12 * 2 ^ 69) := by ring
    _ ≤ 2 * 100 ^ 12 * ((2 ^ 33 * 440) ^ 12 * 2 ^ i) := by gcongr
    _ = 100 ^ 12 * ((2 ^ 33 * 440) ^ 12 * 2 ^ (i + 1)) := by ring

/-- The ROM of a legal block is strictly increasing. -/
theorem ftabRom_lt_succ {fs i : Nat} (hlow : 25088 ≤ fs) (hhigh : fs ≤ 192000) (hi : i < 127) :
    (ftabRom fs i).toNat < (ftabRom fs (i + 1)).toNat := by
  have hge := ftabRom_ge hlow hhigh (i := i) (by omega)
  have hfits := (le_ftabRom_iff hlow (i := i) (by omega) (by omega)).mp le_rfl
  exact (le_ftabRom_iff hlow (by omega) (by omega)).mpr (ftabFits_succ (by omega) hfits)

/-- `p / q` is within `e / 10^8` of a 12th root of `c`, relatively: the bounds to the 12th power are integers. -/
theorem abs_div_root_sub_one_lt {p q c e : Nat} {r : ℝ} (hq : 0 < q) (hr : 0 < r) (hroot : r ^ 12 = c)
    (he : e ≤ 10 ^ 8) (hlo : ((10 ^ 8 - e) * q) ^ 12 * c < (10 ^ 8 * p) ^ 12)
    (hhi : (10 ^ 8 * p) ^ 12 < ((10 ^ 8 + e) * q) ^ 12 * c) : |(p : ℝ) / q / r - 1| < e / 10 ^ 8 := by
  have hlo' : (((10 : ℝ) ^ 8 - e) * q * r) ^ 12 < (10 ^ 8 * p) ^ 12 := by
    rw [mul_pow _ r, hroot]
    exact_mod_cast hlo
  have hhi' : ((10 : ℝ) ^ 8 * p) ^ 12 < ((10 ^ 8 + e) * q * r) ^ 12 := by
    rw [mul_pow _ r, hroot]
    exact_mod_cast hhi
  have hqr : 0 < (q : ℝ) * r := mul_pos (Nat.cast_pos.mpr hq) hr
  have hlower := lt_of_pow_lt_pow_left₀ 12 (by positivity) hlo'
  have hupper := lt_of_pow_lt_pow_left₀ 12 (by positivity) hhi'
  rw [div_div, abs_sub_lt_iff, sub_lt_iff_lt_add, sub_lt_comm, div_lt_iff₀ hqr, lt_div_iff₀ hqr]
  constructor <;> linarith

/-- The semitone is a 12th root of 2. -/
theorem semitone_pow_twelve : ((2 : ℝ) ^ ((1 : ℝ) / 12)) ^ 12 = (2 : Nat) := by
  rw [← Real.rpow_mul_natCast two_pos.le]
  norm_num

/-- Three semitones are a 12th root of 8. -/
theorem three_semitones_pow_twelve : ((2 : ℝ) ^ ((3 : ℝ) / 12)) ^ 12 = (8 : Nat) := by
  rw [← Real.rpow_mul_natCast two_pos.le]
  norm_num

/-- At 48000 Hz neighbours are a semitone apart to within 6.7e-7, as integers: evaluated on the model's own entries. -/
theorem ftabRom_48000_semitones : ∀ i < 127,
    ((10 ^ 8 - 67) * (ftabRom 48000 i).toNat) ^ 12 * 2 < (10 ^ 8 * (ftabRom 48000 (i + 1)).toNat) ^ 12 ∧
      (10 ^ 8 * (ftabRom 48000 (i + 1)).toNat) ^ 12 < ((10 ^ 8 + 67) * (ftabRom 48000 i).toNat) ^ 12 * 2 := by
  decide +kernel

/-- At 48000 Hz entry 0 is the reference frequency to within 1.5e-7, as integers: `F_REF` is three semitones above
440 Hz, less six octaves. -/
theorem ftabRom_48000_reference :
    ((10 ^ 8 - 15) * (2 ^ 32 * 440)) ^ 12 * 8 < (10 ^ 8 * ((ftabRom 48000 0).toNat * 48000 * 2 ^ 6)) ^ 12 ∧
      (10 ^ 8 * ((ftabRom 48000 0).toNat * 48000 * 2 ^ 6)) ^ 12 < ((10 ^ 8 + 15) * (2 ^ 32 * 440)) ^ 12 * 8 := by
  decide +kernel

/-- Three semitones less six octaves are the 69 semitones from A4 down to note 0. -/
theorem three_semitones_sub_octaves : (2 : ℝ) ^ (-(69 : ℝ) / 12) = (2 : ℝ) ^ ((3 : ℝ) / 12) / 2 ^ 6 := by
  rw [← Real.rpow_natCast 2 6, ← Real.rpow_sub two_pos]
  norm_num

/-- The ratio of an entry's frequency to the reference, with its octaves in the entry's numerator. -/
theorem reference_ratio_eq (x r : ℝ) :
    x / 2 ^ 32 * 48000 / (440 * (r / 2 ^ 6)) = x * 48000 * 2 ^ 6 / (2 ^ 32 * 440) / r := by
  field_simp

/-- Settles O45: a semitone is more than the rounding at every legal rate, and at 48000 Hz the entries are compared with
the semitone after both are raised to the 12th power. -/
theorem ftabIncreasesBySemitones : Obligations.FtabIncreasesBySemitones := by
  refine ⟨fun fs i hlow hhigh hi => ftabRom_lt_succ hlow hhigh hi, fun fs i hlow _ hi => ftabRom_le_ftwMax hlow hi,
    fun i hi => ?semitone, ?reference⟩
  case semitone =>
    have hpos : 0 < (ftabRom 48000 i).toNat := by
      have hge := ftabRom_ge (fs := 48000) (i := i) (by decide) (by decide) (by omega)
      omega
    obtain ⟨hlo, hhi⟩ := ftabRom_48000_semitones i hi
    exact_mod_cast abs_div_root_sub_one_lt (e := 67) hpos (by positivity) semitone_pow_twelve (by decide) hlo hhi
  case reference =>
    obtain ⟨hlo, hhi⟩ := ftabRom_48000_reference
    have hbound :=
      abs_div_root_sub_one_lt (e := 15) (by decide) (by positivity) three_semitones_pow_twelve (by decide) hlo hhi
    rw [three_semitones_sub_octaves, reference_ratio_eq]
    exact_mod_cast hbound

end Sys2Proof.Machine
